-- ==== Sys2Proof/Word.lean ====
section
/-! DEFINITION. The words of the link (R181, R185): a byte, a 16-bit word sent most significant byte first, and
the plainest arithmetic on them. -/

namespace Sys2Proof

/-- One byte on the link (R181). -/
abbrev Byte := BitVec 8

/-- One payload word (R185): 16 bits, most significant byte first on the link. -/
abbrev Word := BitVec 16

/-- A set of zones, bit z standing for zone z (R185). -/
abbrev ZoneSet := BitVec 8

/-- The upper and lower byte of a word. -/
def Word.hi (w : Word) : Byte := (w >>> 8).setWidth 8
def Word.lo (w : Word) : Byte := w.setWidth 8

/-- The word made of two bytes, the first the most significant (R185). -/
def Word.ofBytes (h l : Byte) : Word := (h.setWidth 16 <<< 8) ||| l.setWidth 16

end Sys2Proof
end

