-- ==== Sys2Proof/Config.lean ====
section
/-! DEFINITION. The figures that the part fixes and no record configures. The spec leaves no value free, so there is
no opaque constant here. -/

namespace Sys2Proof.Config

/-- The line converter reads VLINE every 20 ms (R139). -/
def lineReadingMs : Nat := 20

/-- The period of the Order Table's time base (R37) and of a doorway's tail second (R109), in ms. -/
def secondMs : Nat := 1000

/-- The refresh timer of an EXTERNAL sensor channel, 10 s (R71), in ms. -/
def refreshMs : Nat := 10000

/-- The most bytes the part receives in one transaction (R181). -/
def maxRxBytes : Nat := 31

/-- What the part shifts out when it has no reply byte (R181). -/
def fillerByte : Byte := 0

/-- The greatest received allowance that ALLOWANCE takes (R147), in 0.1 kW. -/
def maxAllowance : Nat := 2000

/-- The exit band of the ice test (R125), in 0.1 K. -/
def iceExitBand : Int := 20

/-- The outside temperature above which ICE is left (R125), in 0.1 °C. -/
def iceExitTo : Int := 10

/-- The outside temperature below which UNKNOWN makes C_FOG true (R43), in 0.1 °C. -/
def fogUnknownTo : Int := 50

/-- The outside temperature below which mirrors are heated at screen level 0 (R133), in 0.1 °C. -/
def mirrorTo : Int := 30

/-- How far below its limit a surface must read for a channel to stop being overheated (R175), in 0.1 K. -/
def overheatRelease : Int := 100

end Sys2Proof.Config
end

