-- ==== Sys2Proof/Syntax.lean ====
section
/-! DEFINITION. The commands of the block, whole: one constructor of `Instr` for each row of
spec/opcode_table.json. A row is a frame the host sends, an event at a pin, the expiry of a timer, or a posting that
one block of the part makes to another ("Each receiving block takes its posting as an event of its own"). The table
gives the rows no operands; the operands here are those the row's rule names. -/

namespace Sys2Proof

/-! ### Numbers of objects (00_scope.md, "Objects are numbered from zero") -/

abbrev ZoneId := Fin 8
abbrev DoorId := Fin 6
abbrev ChanId := Fin 36
abbrev BankId := Fin 4
abbrev SensorId := Fin 32
abbrev SlotId := Fin 64
/-- An AUX channel: `a` stands for output channel 32 + a (R8). -/
abbrev AuxId := Fin 4

/-! ### Named values -/

/-- The sender class of a frame (R191). -/
inductive Origin where
  | service | driver | fleet | depot
  deriving DecidableEq, Repr

/-- The state of the line as the part judges it (R138). -/
inductive SupplyState where
  | line | pregap | gap | battery
  deriving DecidableEq, Repr

/-- The operating mode (R138). -/
inductive Mode where
  | run | park
  deriving DecidableEq, Repr

/-- The judgement of the windscreen (R121). -/
inductive Watch where
  | clear | risk | fog | ice | unknown
  deriving DecidableEq, Repr

/-- The state of a doorway (R104). -/
inductive DoorState where
  | closed | opened | tail | held | fault
  deriving DecidableEq, Repr

/-- The surface state of an output channel (R79): no surface sensor, a reading, or lost. -/
inductive Surface where
  | noSensor
  | reading (t : Int)
  | lost
  deriving DecidableEq, Repr

/-- A member of the line pool (R157). -/
inductive LineMember where
  | zone (z : ZoneId)
  | curtain (d : DoorId)
  deriving DecidableEq, Repr

/-- A member of either pool (R157). -/
inductive PoolMember where
  | line (m : LineMember)
  | aux (a : AuxId)
  deriving DecidableEq, Repr

/-- Who posts the duty of an output channel: the consumer that the channel's type names (R176). The Screen Controller
posts as the consumer of a SCREEN or of a MIRROR channel. -/
inductive Consumer where
  | zone (z : ZoneId)
  | doorway (d : DoorId)
  | screen
  | mirror
  deriving DecidableEq, Repr

/-- A duty as a consumer posts it for one of its channels, in per mille (R176). -/
structure PostedDuty where
  poster : Consumer
  duty : Nat
  deriving DecidableEq, Repr

/-- One changed input of the condition word, as a posting carries it (R45). -/
inductive CondInput where
  /-- the four flags of the vehicle status (R186) -/
  | vehicle (moving stopped depot night : Bool)
  /-- the supply state (R145) -/
  | supply (s : SupplyState)
  /-- the battery-low state (R151) -/
  | batteryLow (asserted : Bool)
  /-- a doorway's state and its served zones (R118) -/
  | doorway (d : DoorId) (s : DoorState) (zones : ZoneSet)
  /-- the outside temperature and its stale flag (R80) -/
  | outside (t : Int) (stale : Bool)
  /-- the frost and warm thresholds of the LIMITS record (R16) -/
  | thresholds (frost warm : Int)
  /-- the air validity of a zone (R76) -/
  | airValidity (z : ZoneId) (valid : Bool)
  deriving DecidableEq, Repr

/-! ### Payloads of frames, as words and bytes (R185, R191, R192) -/

/-- What every frame carries beside its code and payload: the origin, and the bytes clocked after the payload, which
are ignored but clock out reply bytes (R182, R183). -/
structure Header where
  origin : Origin
  pad : List Byte
  deriving DecidableEq, Repr

/-- A handle as carried: the slot byte, then the generation byte (R191). -/
structure HandleBytes where
  slot : Byte
  gen : Byte
  deriving DecidableEq, Repr

/-- The 14-byte order record as carried (R192). -/
structure OrderWords where
  kind : Word
  zones : Byte
  value : Word
  select : Word
  flags : Byte
  mode : Word
  count : Word
  onTime : Word
  deriving DecidableEq, Repr

/-- The VEHICLE payload as carried (R186, R192). -/
structure VehicleBytes where
  flags : Byte
  occupancy : Vector Byte 8
  deriving DecidableEq, Repr

/-- The words of a ZONE record, in the order of the table of R2. -/
structure ZoneWords where
  sect : Word
  setpoint : Word
  bandMin : Word
  bandMax : Word
  kp : Word
  ki : Word
  kf : Word
  kd : Word
  ko : Word
  minFresh : Word
  interval : Word
  deriving DecidableEq, Repr

/-- The words of a DOORWAY record, in the order of the table of R5. -/
structure DoorWords where
  zones : Word
  debounce : Word
  tail : Word
  hold : Word
  cap : Word
  noHold : Word
  faultDelay : Word
  deriving DecidableEq, Repr

/-- The words of a CHANNEL record, in the order of the table of R8. -/
structure ChanWords where
  type : Word
  rated : Word
  group : Word
  limit : Word
  enabled : Word
  deriving DecidableEq, Repr

/-- The words of a SENSOR record, in the order of the table of R12. -/
structure SensorWords where
  role : Word
  origin : Word
  hold : Word
  run : Word
  deriving DecidableEq, Repr

/-- The words of a BANK record, in the order of the table of R11. -/
structure BankWords where
  precharge : Word
  opening : Word
  idle : Word
  ramp : Word
  deriving DecidableEq, Repr

/-- The words of the SUPPLY record, in the order of the table of R14. -/
structure SupplyWords where
  low : Word
  high : Word
  confirm : Word
  gapHold : Word
  pregap : Word
  lineMax : Word
  parkLimit : Word
  timeout : Word
  fallback : Word
  aux : Word
  deriving DecidableEq, Repr

/-- The words of the SCREEN record, in the order of the table of R15. -/
structure ScreenWords where
  risk : Word
  fog : Word
  hyst : Word
  ice : Word
  dwell : Word
  deriving DecidableEq, Repr

/-- The words of the LIMITS record, in the order of the table of R16. -/
structure LimitsWords where
  mask : Word
  bandMin : Word
  bandMax : Word
  frost : Word
  warm : Word
  floor : Word
  scan : Word
  deriving DecidableEq, Repr

/-- What a CONFIGURE of the ZONE kind carries. A CONFIGURE whose first payload byte names no record kind is well formed
too (R182) and has no row of its own: it is carried here, and R1's first check refuses it. -/
inductive ZonePayload where
  | record (index : Byte) (w : ZoneWords)
  | unknownKind (kind : Byte) (rest : List Byte)
  deriving DecidableEq, Repr

/-! ### The commands -/

/-- The commands of the block, one constructor for each row of spec/opcode_table.json, in the table's order. -/
inductive Instr where
  /-- POWER_ON (R66) -/
  | powerOn
  /-- NOP (R183) -/
  | nop (h : Header)
  /-- MALFORMED_FRAME (R182): the complete bytes of the transaction -/
  | malformedFrame (bytes : List Byte)
  /-- PLACE (R29) -/
  | place (h : Header) (r : OrderWords)
  /-- AMEND (R30) -/
  | amend (h : Header) (k : HandleBytes) (r : OrderWords)
  /-- RETIRE (R33) -/
  | retire (h : Header) (k : HandleBytes)
  /-- LATCH (R34) -/
  | latch (h : Header) (k : HandleBytes)
  /-- READ_ORDER (R35) -/
  | readOrder (h : Header) (k : HandleBytes)
  /-- LIST_ORDERS (R36) -/
  | listOrders (h : Header)
  /-- READ_ZONE (R64, R82) -/
  | readZone (h : Header) (n : Byte)
  /-- READ_DOORWAY (R119) -/
  | readDoorway (h : Header) (n : Byte)
  /-- READ_SCREEN (R136) -/
  | readScreen (h : Header)
  /-- READ_SUPPLY (R155) -/
  | readSupply (h : Header)
  /-- READ_BANK (R179) -/
  | readBank (h : Header) (n : Byte)
  /-- READ_CHANNEL (R179) -/
  | readChannel (h : Header) (n : Byte)
  /-- READ_SENSOR (R67) -/
  | readSensor (h : Header) (n : Byte)
  /-- VEHICLE (R186) -/
  | vehicle (h : Header) (v : VehicleBytes)
  /-- ALLOWANCE (R147) -/
  | allowance (h : Header) (v : Word)
  /-- GAP_AHEAD (R144) -/
  | gapAhead (h : Header)
  /-- SENSE (R70) -/
  | sense (h : Header) (n : Byte) (v : Word)
  /-- MODE (R152) -/
  | mode (h : Header) (v : Byte)
  /-- CONFIGURE_ZONE (R2, R3) -/
  | configureZone (h : Header) (p : ZonePayload)
  /-- CONFIGURE_DOORWAY (R5, R6) -/
  | configureDoorway (h : Header) (index : Byte) (w : DoorWords)
  /-- CONFIGURE_CHANNEL (R8 to R10) -/
  | configureChannel (h : Header) (index : Byte) (w : ChanWords)
  /-- CONFIGURE_SENSOR (R12, R13) -/
  | configureSensor (h : Header) (index : Byte) (w : SensorWords)
  /-- CONFIGURE_BANK (R11) -/
  | configureBank (h : Header) (index : Byte) (w : BankWords)
  /-- CONFIGURE_SUPPLY (R14) -/
  | configureSupply (h : Header) (index : Byte) (w : SupplyWords)
  /-- CONFIGURE_SCREEN (R15) -/
  | configureScreen (h : Header) (index : Byte) (w : ScreenWords)
  /-- CONFIGURE_LIMITS (R16) -/
  | configureLimits (h : Header) (index : Byte) (w : LimitsWords)
  /-- CURVE_POINTER (R18) -/
  | curvePointer (h : Header) (v : Byte)
  /-- CURVE_DATA, write form (R19) -/
  | curveDataWrite (h : Header) (v : Word)
  /-- CURVE_DATA, read form (R19) -/
  | curveDataRead (h : Header)
  /-- BANK_LOCK (R171) -/
  | bankLock (h : Header) (n : Byte)
  /-- BANK_UNLOCK (R171) -/
  | bankUnlock (h : Header) (n : Byte)
  /-- BANK_CLEAR (R171) -/
  | bankClear (h : Header) (n : Byte)
  /-- RESTART (R187) -/
  | restart (h : Header)
  /-- CAUSE (R189) -/
  | cause (h : Header)
  /-- MASK (R190) -/
  | mask (h : Header) (v : Byte)
  /-- ORDER_TABLE_RESTART (R50) -/
  | orderTableRestart
  /-- SENSOR_SCANNER_RESTART (R81) -/
  | sensorScannerRestart
  /-- ZONE_REGULATOR_RESTART (R103) -/
  | zoneRegulatorRestart (z : ZoneId)
  /-- DOORWAY_MONITOR_RESTART (R120) -/
  | doorwayMonitorRestart
  /-- SCREEN_CONTROLLER_RESTART (R137) -/
  | screenControllerRestart
  /-- SUPPLY_MONITOR_RESTART (R156) -/
  | supplyMonitorRestart
  /-- ALLOCATOR_RESTART (R180) -/
  | allocatorRestart
  /-- BANK_CONTROLLER_RESTART (R173) -/
  | bankControllerRestart
  /-- TIME_BASE_BOUNDARY (R37) -/
  | timeBaseBoundary
  /-- COUNTDOWN_EXPIRY (R39) -/
  | countdownExpiry (k : SlotId)
  /-- ORDER_TAIL_EXPIRY (R40) -/
  | orderTailExpiry (k : SlotId)
  /-- PULSE_PERIOD_EXPIRY (R41) -/
  | pulsePeriodExpiry (k : SlotId)
  /-- SCAN_EXPIRY (R68, R69) -/
  | scanExpiry
  /-- CONVERSION_ARRIVAL (R68, R73): the channel converted and its reading, in the unit of its role -/
  | conversionArrival (k : SensorId) (v : Int)
  /-- REFRESH_EXPIRY (R71) -/
  | refreshExpiry (k : SensorId)
  /-- SENSOR_HOLD_EXPIRY (R75) -/
  | sensorHoldExpiry (k : SensorId)
  /-- INTERVAL_EXPIRY (R83) -/
  | intervalExpiry (z : ZoneId)
  /-- ZONE_GRANT (R96) -/
  | zoneGrant (z : ZoneId) (g : Nat)
  /-- DRAFT_POSTING (R89) -/
  | draftPosting (z : ZoneId) (d : Nat)
  /-- PINST_POSTING (R98) -/
  | pinstPosting (z : ZoneId)
  /-- CAP_LOWERED (R102): the new cap -/
  | capLowered (z : ZoneId) (c : Nat)
  /-- ZONE_INACTIVE_POSTING (R101) -/
  | zoneInactivePosting (z : ZoneId)
  /-- DOORWAY_INPUT_CHANGE (R105): the new level of DINd, `true` being open -/
  | doorwayInputChange (d : DoorId) (isOpen : Bool)
  /-- DEBOUNCE_EXPIRY (R105) -/
  | debounceExpiry (d : DoorId)
  /-- HOLD_EXPIRY (R108) -/
  | holdExpiry (d : DoorId)
  /-- TAIL_SECOND (R109) -/
  | tailSecond (d : DoorId)
  /-- DOORWAY_TAIL_EXPIRY (R109) -/
  | doorwayTailExpiry (d : DoorId)
  /-- FAULT_EXPIRY (R110) -/
  | faultExpiry (d : DoorId)
  /-- MOVING_FLAG_POSTING (R110) -/
  | movingFlagPosting (moving : Bool)
  /-- ZONE_TARGET_POSTING (R115): Ts, or none while INACTIVE -/
  | zoneTargetPosting (z : ZoneId) (ts : Option Int)
  /-- TO_POSTING (R115) -/
  | toPosting (t : Int)
  /-- CURTAIN_CHANNEL_POSTING (R116, R178): the doorways whose curtain channel one event changed -/
  | curtainChannelPosting (ds : List DoorId)
  /-- CURTAIN_GRANT (R117) -/
  | curtainGrant (d : DoorId) (g : Nat)
  /-- FRESH_AIR_POSTING (R95) -/
  | freshAirPosting (z : ZoneId) (v : Nat)
  /-- SCREEN_SENSOR_POSTING (R122): Ta(0), To and its stale flag, the glass temperature, the cab humidity -/
  | screenSensorPosting (ta0 : Option Int) (tOut : Int) (stale : Bool) (glass humidity : Option Int)
  /-- WATCH_POSTING (R127): the new watch state and, where the state has one, the value for slot 62 -/
  | watchPosting (w : Watch) (value : Option Nat)
  /-- SCREEN_LEVEL_POSTING (R129) -/
  | screenLevelPosting (level : Nat)
  /-- ZONE0_POSTING (R130) -/
  | zone0Posting (fan fresh : Nat)
  /-- AUX_CHANNEL_POSTING (R132, R178): the one AUX channel that an event can change -/
  | auxChannelPosting (a : AuxId)
  /-- AUX_GRANT (R134) -/
  | auxGrant (a : AuxId) (g : Nat)
  /-- CONDITION_POSTING (R45) -/
  | conditionPosting (x : CondInput)
  /-- ORDER_TABLE_PARK_CLEAR (R49) -/
  | orderTableParkClear
  /-- ORDER_TABLE_MODE_POSTING (R154) -/
  | orderTableModePosting (m : Mode)
  /-- LINE_READING (R139, R151): the voltage read at VLINE and the level sampled at BATLOW -/
  | lineReading (volts : Nat) (batLow : Bool)
  /-- CONFIRMATION_EXPIRY (R139) -/
  | confirmationExpiry
  /-- GAP_HOLD_EXPIRY (R142) -/
  | gapHoldExpiry
  /-- PREGAP_EXPIRY (R141) -/
  | pregapExpiry
  /-- ALLOWANCE_EXPIRY (R148) -/
  | allowanceExpiry
  /-- LINE_REQUEST_POSTING (R161) -/
  | lineRequestPosting (m : LineMember) (r : Nat)
  /-- AUX_REQUEST_POSTING (R162) -/
  | auxRequestPosting (a : AuxId) (r : Nat)
  /-- AVAILABLE_HEAT_POSTING (R158, R178): the available heat of every member that one event changed, of which there is at
  least one -/
  | availableHeatPosting (x : PoolMember × Nat) (others : List (PoolMember × Nat))
  /-- ALLOCATOR_ALLOWANCE_POSTING (R161) -/
  | allocatorAllowancePosting (allowance : Nat)
  /-- ALLOCATOR_SUPPLY_POSTING (R145, R161): the supply state and the line allowance in force -/
  | allocatorSupplyPosting (x : SupplyState) (allowance : Nat)
  /-- ALLOCATOR_MODE_POSTING (R153, R161): the mode and the line allowance in force -/
  | allocatorModePosting (m : Mode) (allowance : Nat)
  /-- AUX_ALLOWANCE_POSTING (R162) -/
  | auxAllowancePosting (allowance : Nat)
  /-- DUTY_POSTING (R176): the channel, and the duty with the consumer that posts it -/
  | dutyPosting (c : ChanId) (x : PostedDuty)
  /-- CHANNEL_RECONFIGURED_POSTING (R10) -/
  | channelReconfiguredPosting (c : ChanId)
  /-- BANK_SUPPLY_POSTING (R167) -/
  | bankSupplyPosting (b : BankId) (x : SupplyState)
  /-- SURFACE_POSTING (R175) -/
  | surfacePosting (c : ChanId) (x : Surface)
  /-- OVERCURRENT (R168): the new level of OCb; an assertion is what the rules act on -/
  | overcurrent (b : BankId) (asserted : Bool)
  /-- PRECHARGE_COMPLETION (R166): the voltage read at VLINKb -/
  | prechargeCompletion (b : BankId) (vlink : Nat)
  /-- RAMP_EXPIRY (R168) -/
  | rampExpiry (b : BankId)
  /-- IDLE_EXPIRY (R168) -/
  | idleExpiry (b : BankId)
  /-- OPENING_COMPLETION (R169) -/
  | openingCompletion (b : BankId)
  deriving DecidableEq, Repr

end Sys2Proof
end

