-- ==== Sys2Proof/Decode.lean ====
section
/-! DEFINITION. The frames of the link: how the bytes of a transaction spell a command (R181, R182, R185, R191,
R192), and how a command is laid out as bytes. The opcode table gives its rows no bits, so `decodeTableWord` answers
none. -/

namespace Sys2Proof

/-! ### Words and bytes (R185) -/

def bytesOfWords : List Word → List Byte
  | [] => []
  | w :: ws => w.hi :: w.lo :: bytesOfWords ws

/-- An odd byte at the end makes no word. -/
def wordsOfBytes : List Byte → List Word
  | h :: l :: bs => Word.ofBytes h l :: wordsOfBytes bs
  | _ => []

/-! ### The words of the configuration records, in the order of each record's table (R185) -/

def ZoneWords.words (w : ZoneWords) : List Word :=
  [w.sect, w.setpoint, w.bandMin, w.bandMax, w.kp, w.ki, w.kf, w.kd, w.ko, w.minFresh, w.interval]

def ZoneWords.ofWords : List Word → Option ZoneWords
  | [a, b, c, d, e, f, g, h, i, j, k] => some ⟨a, b, c, d, e, f, g, h, i, j, k⟩
  | _ => none

def DoorWords.words (w : DoorWords) : List Word :=
  [w.zones, w.debounce, w.tail, w.hold, w.cap, w.noHold, w.faultDelay]

def DoorWords.ofWords : List Word → Option DoorWords
  | [a, b, c, d, e, f, g] => some ⟨a, b, c, d, e, f, g⟩
  | _ => none

def ChanWords.words (w : ChanWords) : List Word :=
  [w.type, w.rated, w.group, w.limit, w.enabled]

def ChanWords.ofWords : List Word → Option ChanWords
  | [a, b, c, d, e] => some ⟨a, b, c, d, e⟩
  | _ => none

def SensorWords.words (w : SensorWords) : List Word :=
  [w.role, w.origin, w.hold, w.run]

def SensorWords.ofWords : List Word → Option SensorWords
  | [a, b, c, d] => some ⟨a, b, c, d⟩
  | _ => none

def BankWords.words (w : BankWords) : List Word :=
  [w.precharge, w.opening, w.idle, w.ramp]

def BankWords.ofWords : List Word → Option BankWords
  | [a, b, c, d] => some ⟨a, b, c, d⟩
  | _ => none

def SupplyWords.words (w : SupplyWords) : List Word :=
  [w.low, w.high, w.confirm, w.gapHold, w.pregap, w.lineMax, w.parkLimit, w.timeout, w.fallback, w.aux]

def SupplyWords.ofWords : List Word → Option SupplyWords
  | [a, b, c, d, e, f, g, h, i, j] => some ⟨a, b, c, d, e, f, g, h, i, j⟩
  | _ => none

def ScreenWords.words (w : ScreenWords) : List Word :=
  [w.risk, w.fog, w.hyst, w.ice, w.dwell]

def ScreenWords.ofWords : List Word → Option ScreenWords
  | [a, b, c, d, e] => some ⟨a, b, c, d, e⟩
  | _ => none

def LimitsWords.words (w : LimitsWords) : List Word :=
  [w.mask, w.bandMin, w.bandMax, w.frost, w.warm, w.floor, w.scan]

def LimitsWords.ofWords : List Word → Option LimitsWords
  | [a, b, c, d, e, f, g] => some ⟨a, b, c, d, e, f, g⟩
  | _ => none

/-! ### The layouts of R191 and R192 -/

def HandleBytes.bytes (k : HandleBytes) : List Byte := [k.slot, k.gen]

def OrderWords.bytes (r : OrderWords) : List Byte :=
  [r.kind.hi, r.kind.lo, r.zones, r.value.hi, r.value.lo, r.select.hi, r.select.lo, r.flags, r.mode.hi, r.mode.lo,
    r.count.hi, r.count.lo, r.onTime.hi, r.onTime.lo]

def OrderWords.ofBytes : List Byte → Option OrderWords
  | [k1, k0, z, v1, v0, s1, s0, f, m1, m0, c1, c0, o1, o0] =>
    some
      { kind := .ofBytes k1 k0, zones := z, value := .ofBytes v1 v0, select := .ofBytes s1 s0, flags := f,
        mode := .ofBytes m1 m0, count := .ofBytes c1 c0, onTime := .ofBytes o1 o0 }
  | _ => none

def VehicleBytes.bytes (v : VehicleBytes) : List Byte := v.flags :: v.occupancy.toList

def VehicleBytes.ofBytes : List Byte → Option VehicleBytes
  | [f, a, b, c, d, e, g, h, i] => some { flags := f, occupancy := #v[a, b, c, d, e, g, h, i] }
  | _ => none

def ZonePayload.bytes : ZonePayload → List Byte
  | .record i w => 0 :: i :: bytesOfWords w.words
  | .unknownKind k rest => k :: rest

def Origin.byte : Origin → Byte
  | .service => 0
  | .driver => 1
  | .fleet => 2
  | .depot => 3

/-- An origin byte greater than 3 makes a frame malformed (R182). -/
def Origin.ofByte (b : Byte) : Option Origin :=
  if b = 0 then some .service
  else if b = 1 then some .driver
  else if b = 2 then some .fleet
  else if b = 3 then some .depot
  else none

/-! ### From bytes to a command -/

/-- The command a CONFIGURE payload carries: the record kind, the index, then the record's words (R185). A kind byte
that names no record kind passes with any length of 2 or more (R182). -/
def decodeConfigure (h : Header) (p : List Byte) : Option Instr :=
  match p with
  | k :: i :: bs =>
    if k = 0 then (ZoneWords.ofWords (wordsOfBytes bs)).bind fun w =>
      if bs.length = 22 then some (.configureZone h (.record i w)) else none
    else if k = 1 then (DoorWords.ofWords (wordsOfBytes bs)).bind fun w =>
      if bs.length = 14 then some (.configureDoorway h i w) else none
    else if k = 2 then (ChanWords.ofWords (wordsOfBytes bs)).bind fun w =>
      if bs.length = 10 then some (.configureChannel h i w) else none
    else if k = 3 then (SensorWords.ofWords (wordsOfBytes bs)).bind fun w =>
      if bs.length = 8 then some (.configureSensor h i w) else none
    else if k = 4 then (BankWords.ofWords (wordsOfBytes bs)).bind fun w =>
      if bs.length = 8 then some (.configureBank h i w) else none
    else if k = 5 then (SupplyWords.ofWords (wordsOfBytes bs)).bind fun w =>
      if bs.length = 20 then some (.configureSupply h i w) else none
    else if k = 6 then (ScreenWords.ofWords (wordsOfBytes bs)).bind fun w =>
      if bs.length = 10 then some (.configureScreen h i w) else none
    else if k = 7 then (LimitsWords.ofWords (wordsOfBytes bs)).bind fun w =>
      if bs.length = 14 then some (.configureLimits h i w) else none
    else some (.configureZone h (.unknownKind k (i :: bs)))
  | _ => none

/-- The command whose payload is one byte. -/
def oneByte (p : List Byte) (f : Byte → Instr) : Option Instr :=
  match p with
  | [b] => some (f b)
  | _ => none

/-- The command whose payload is empty. -/
def noBytes (p : List Byte) (i : Instr) : Option Instr :=
  match p with
  | [] => some i
  | _ => none

/-- The command whose payload is a handle (R191). -/
def handleBytes (p : List Byte) (f : HandleBytes → Instr) : Option Instr :=
  match p with
  | [s, g] => some (f { slot := s, gen := g })
  | _ => none

/-- The command of a code and a payload; none where the code is not in the table of R182 or the payload's length is not
one the table allows for it. -/
def decodePayload (code : Byte) (h : Header) (p : List Byte) : Option Instr :=
  if code = 0x00 then noBytes p (.nop h)
  else if code = 0x10 then (OrderWords.ofBytes p).map (.place h)
  else if code = 0x11 then
    match p with
    | s :: g :: bs => (OrderWords.ofBytes bs).map (.amend h { slot := s, gen := g })
    | _ => none
  else if code = 0x12 then handleBytes p (.retire h)
  else if code = 0x13 then handleBytes p (.latch h)
  else if code = 0x14 then handleBytes p (.readOrder h)
  else if code = 0x15 then noBytes p (.listOrders h)
  else if code = 0x20 then oneByte p (.readZone h)
  else if code = 0x21 then oneByte p (.readDoorway h)
  else if code = 0x22 then noBytes p (.readScreen h)
  else if code = 0x23 then noBytes p (.readSupply h)
  else if code = 0x24 then oneByte p (.readBank h)
  else if code = 0x25 then oneByte p (.readChannel h)
  else if code = 0x26 then oneByte p (.readSensor h)
  else if code = 0x30 then (VehicleBytes.ofBytes p).map (.vehicle h)
  else if code = 0x31 then
    match p with
    | [v1, v0] => some (.allowance h (.ofBytes v1 v0))
    | _ => none
  else if code = 0x32 then noBytes p (.gapAhead h)
  else if code = 0x33 then
    match p with
    | [n, v1, v0] => some (.sense h n (.ofBytes v1 v0))
    | _ => none
  else if code = 0x34 then oneByte p (.mode h)
  else if code = 0x40 then decodeConfigure h p
  else if code = 0x41 then oneByte p (.curvePointer h)
  else if code = 0x42 then
    match p with
    | [] => some (.curveDataRead h)
    | [v1, v0] => some (.curveDataWrite h (.ofBytes v1 v0))
    | _ => none
  else if code = 0x50 then oneByte p (.bankLock h)
  else if code = 0x51 then oneByte p (.bankUnlock h)
  else if code = 0x52 then oneByte p (.bankClear h)
  else if code = 0x53 then noBytes p (.restart h)
  else if code = 0x60 then noBytes p (.cause h)
  else if code = 0x61 then oneByte p (.mask h)
  else none

/-- The well-formed frame that the bytes clocked in a transaction spell, or none (R182): three header bytes and n
payload bytes within the 31 received. The bytes after them are the padding. -/
def decodeWellFormed (bytes : List Byte) : Option Instr :=
  match bytes with
  | code :: org :: n :: rest =>
    if n.toNat ≤ (rest.take (Config.maxRxBytes - 3)).length then
      (Origin.ofByte org).bind fun o =>
        decodePayload code { origin := o, pad := rest.drop n.toNat } (rest.take n.toNat)
    else none
  | _ => none

/-- The command taken at the release of nSEL: nothing where no complete byte came, else the well-formed frame's
command, else MALFORMED_FRAME (R181, R182). -/
def decodeFrame (bytes : List Byte) : Option Instr :=
  if bytes = [] then none else some ((decodeWellFormed bytes).getD (.malformedFrame bytes))

/-! ### From a command to bytes -/

/-- The code, header and payload of a command that is a well-formed frame; none for the others. -/
def framePayload : Instr → Option (Byte × Header × List Byte)
  | .nop h => some (0x00, h, [])
  | .place h r => some (0x10, h, r.bytes)
  | .amend h k r => some (0x11, h, k.bytes ++ r.bytes)
  | .retire h k => some (0x12, h, k.bytes)
  | .latch h k => some (0x13, h, k.bytes)
  | .readOrder h k => some (0x14, h, k.bytes)
  | .listOrders h => some (0x15, h, [])
  | .readZone h n => some (0x20, h, [n])
  | .readDoorway h n => some (0x21, h, [n])
  | .readScreen h => some (0x22, h, [])
  | .readSupply h => some (0x23, h, [])
  | .readBank h n => some (0x24, h, [n])
  | .readChannel h n => some (0x25, h, [n])
  | .readSensor h n => some (0x26, h, [n])
  | .vehicle h v => some (0x30, h, v.bytes)
  | .allowance h v => some (0x31, h, [v.hi, v.lo])
  | .gapAhead h => some (0x32, h, [])
  | .sense h n v => some (0x33, h, [n, v.hi, v.lo])
  | .mode h v => some (0x34, h, [v])
  | .configureZone h p => some (0x40, h, p.bytes)
  | .configureDoorway h i w => some (0x40, h, 1 :: i :: bytesOfWords w.words)
  | .configureChannel h i w => some (0x40, h, 2 :: i :: bytesOfWords w.words)
  | .configureSensor h i w => some (0x40, h, 3 :: i :: bytesOfWords w.words)
  | .configureBank h i w => some (0x40, h, 4 :: i :: bytesOfWords w.words)
  | .configureSupply h i w => some (0x40, h, 5 :: i :: bytesOfWords w.words)
  | .configureScreen h i w => some (0x40, h, 6 :: i :: bytesOfWords w.words)
  | .configureLimits h i w => some (0x40, h, 7 :: i :: bytesOfWords w.words)
  | .curvePointer h v => some (0x41, h, [v])
  | .curveDataWrite h v => some (0x42, h, [v.hi, v.lo])
  | .curveDataRead h => some (0x42, h, [])
  | .bankLock h n => some (0x50, h, [n])
  | .bankUnlock h n => some (0x51, h, [n])
  | .bankClear h n => some (0x52, h, [n])
  | .restart h => some (0x53, h, [])
  | .cause h => some (0x60, h, [])
  | .mask h v => some (0x61, h, [v])
  | .malformedFrame _ | .powerOn | .orderTableRestart | .sensorScannerRestart | .zoneRegulatorRestart _
    | .doorwayMonitorRestart | .screenControllerRestart | .supplyMonitorRestart | .allocatorRestart
    | .bankControllerRestart | .timeBaseBoundary | .countdownExpiry _ | .orderTailExpiry _
    | .pulsePeriodExpiry _ | .scanExpiry | .conversionArrival _ _ | .refreshExpiry _ | .sensorHoldExpiry _
    | .intervalExpiry _ | .zoneGrant _ _ | .draftPosting _ _ | .pinstPosting _ | .capLowered _ _
    | .zoneInactivePosting _ | .doorwayInputChange _ _ | .debounceExpiry _ | .holdExpiry _ | .tailSecond _
    | .doorwayTailExpiry _ | .faultExpiry _ | .movingFlagPosting _ | .zoneTargetPosting _ _ | .toPosting _
    | .curtainChannelPosting _ | .curtainGrant _ _ | .freshAirPosting _ _ | .screenSensorPosting _ _ _ _ _
    | .watchPosting _ _ | .screenLevelPosting _ | .zone0Posting _ _ | .auxChannelPosting _ | .auxGrant _ _
    | .conditionPosting _ | .orderTableParkClear | .orderTableModePosting _ | .lineReading _ _
    | .confirmationExpiry | .gapHoldExpiry | .pregapExpiry | .allowanceExpiry | .lineRequestPosting _ _
    | .auxRequestPosting _ _ | .availableHeatPosting _ _ | .allocatorAllowancePosting _
    | .allocatorSupplyPosting _ _ | .allocatorModePosting _ _ | .auxAllowancePosting _ | .dutyPosting _ _
    | .channelReconfiguredPosting _ | .bankSupplyPosting _ _ | .surfacePosting _ _ | .overcurrent _ _
    | .prechargeCompletion _ _ | .rampExpiry _ | .idleExpiry _ | .openingCompletion _ => none

/-- The bytes clocked in the transaction that carries code, header and payload. -/
def transactionBytes (code : Byte) (h : Header) (payload : List Byte) : List Byte :=
  code :: h.origin.byte :: BitVec.ofNat 8 payload.length :: (payload ++ h.pad)

/-- The bytes clocked in the transaction of a command that is a well-formed frame. -/
def frameBytes (i : Instr) : Option (List Byte) :=
  (framePayload i).map fun (code, h, p) => transactionBytes code h p

/-! ### The host's entry -/

/-- The command that a word spells by the table's bits: none, for the table gives no row any bits. -/
def decodeTableWord (_nbits _w : Nat) : Option Instr := none

end Sys2Proof
end

