-- ==== Sys2Proof/Machine/State.lean ====
section
/-! DEFINITION. The state of the part, block by block, as plain data, and its value at power-on (`State.reset`). Each
block owns its record and keeps a copy of what other blocks have posted to it, as the spec tells it; what the spec
defines as a function of other state (Ta, the allowances in force, a channel's state, ATTN ...) is computed in
Machine/Views.lean and stored nowhere, so that it cannot disagree with what it is computed from. -/

namespace Sys2Proof.Machine

/-- A timer: stopped, or running with its expiry in ms of `State.now`. -/
abbrev Timer := Option Nat

/-! ### The cabin map (chapter 01) -/

/-- A body section (R2). -/
inductive Section where
  | a | b | c
  deriving DecidableEq, Repr

/-- The zone record (R2). -/
structure ZoneRec where
  sect : Section
  setpoint : Int
  bandMin : Int
  bandMax : Int
  kp : Nat
  ki : Nat
  kf : Nat
  kd : Nat
  ko : Nat
  minFresh : Nat
  interval : Nat
  deriving DecidableEq, Repr

/-- The doorway record (R5). -/
structure DoorRec where
  zones : ZoneSet
  debounce : Nat
  tail : Nat
  hold : Nat
  cap : Nat
  noHold : Bool
  faultDelay : Nat
  deriving DecidableEq, Repr

/-- The type of an output channel (R8). -/
inductive ChanType where
  | none
  | convector (z : ZoneId)
  | curtain (d : DoorId)
  | screen
  | mirror
  deriving DecidableEq, Repr

/-- The channel record (R8). -/
structure ChanRec where
  type : ChanType
  rated : Nat
  group : Nat
  limit : Int
  enabled : Bool
  deriving DecidableEq, Repr

/-- The bank record (R11). -/
structure BankRec where
  precharge : Nat
  opening : Nat
  idle : Nat
  ramp : Nat
  deriving DecidableEq, Repr

/-- The role of a sensor channel (R12). -/
inductive Role where
  | unused
  | lineUnused
  | zoneAir (z : ZoneId)
  | surface (c : ChanId)
  | outside
  | glass
  | cabHumidity
  deriving DecidableEq, Repr

/-- Where a sensor channel's readings come from (R12). -/
inductive SensorOrigin where
  | internal | external
  deriving DecidableEq, Repr

/-- The sensor record (R12). -/
structure SensorRec where
  role : Role
  origin : SensorOrigin
  hold : Nat
  run : Nat
  deriving DecidableEq, Repr

/-- The SUPPLY record (R14). -/
structure SupplyRec where
  low : Nat
  high : Nat
  confirm : Nat
  gapHold : Nat
  pregap : Nat
  lineMax : Nat
  parkLimit : Nat
  timeout : Nat
  fallback : Nat
  aux : Nat
  deriving DecidableEq, Repr

/-- The SCREEN record (R15). -/
structure ScreenRec where
  risk : Int
  fog : Int
  hyst : Int
  ice : Int
  dwell : Nat
  deriving DecidableEq, Repr

/-- The LIMITS record (R16). -/
structure LimitsRec where
  mask : ZoneSet
  bandMin : Int
  bandMax : Int
  frost : Int
  warm : Int
  floor : Int
  scan : Nat
  deriving DecidableEq, Repr

/-- The cabin map: every configuration record, and the heating curve (R1, R17). -/
structure CabinMap where
  zones : Vector ZoneRec 8
  doors : Vector DoorRec 6
  chans : Vector ChanRec 36
  sensors : Vector SensorRec 32
  banks : Vector BankRec 4
  supply : SupplyRec
  screen : ScreenRec
  limits : LimitsRec
  curve : Vector Nat 16
  deriving DecidableEq, Repr

/-! ### Link Port (chapter 10) -/

/-- The status of a reply (R184, R191). -/
inductive Status where
  | done | adjusted | full | stale | denied | badField | busy | wrongState | held | badFrame
  deriving DecidableEq, Repr

/-- The reply in the reply buffer (R183). -/
structure Reply where
  code : Byte
  status : Status
  payload : List Byte
  deriving DecidableEq, Repr

/-- The vehicle status last taken (R186). -/
structure VehicleStatus where
  moving : Bool
  stopped : Bool
  depot : Bool
  night : Bool
  occupancy : Vector Nat 8
  deriving DecidableEq, Repr

/-- The Link Port: its buffers, the attention sets, the vehicle status and the curve pointer (R17, R181 to R190). -/
structure LinkPort where
  /-- the receive buffer: the bytes received in the transaction last released, at most 31 (R181) -/
  rx : List Byte
  /-- the bytes shifted out on SDO in the transaction last released (R181, R183) -/
  tx : List Byte
  reply : Reply
  readPos : Nat
  /-- the attention pending set, bit k - 1 for cause k (R188, R189) -/
  causes : Byte
  /-- the attention mask (R188, R190) -/
  mask : Byte
  vehicle : VehicleStatus
  /-- the curve pointer, 0 to 16 (R18, R19) -/
  curvePtr : Nat
  deriving DecidableEq, Repr

/-! ### Order Table (chapters 02 and 03) -/

inductive Source where
  | service | driver | fleet | depot | doorway | screen | base
  deriving DecidableEq, Repr

inductive Kind where
  | hold | offset | floor | cap | vent | screen
  deriving DecidableEq, Repr

inductive Sense where
  | whenTrue | unlessTrue
  deriving DecidableEq, Repr

inductive Lifetime where
  | standing | countdown | tail | pulse
  deriving DecidableEq, Repr

/-- The record of an order: what was asked (R22). -/
structure OrderRec where
  source : Source
  kind : Kind
  zones : ZoneSet
  value : Int
  /-- the condition select, bit k for condition k (R43, R192) -/
  select : BitVec 16
  sense : Sense
  mode : Lifetime
  /-- 1 to 65536 s -/
  count : Nat
  onTime : Nat
  persist : Bool
  deriving DecidableEq, Repr

inductive OrderState where
  | waiting | inForce | tailing | resting
  deriving DecidableEq, Repr

inductive Effect where
  | none | partly | full
  deriving DecidableEq, Repr

/-- The live fields of an order (R23), but for `latched`, which says whether the entry's latch holds a copy. -/
structure OrderLive where
  state : OrderState
  remaining : Nat
  period : Nat
  offTime : Nat
  holds : Bool
  effect : Effect
  deriving DecidableEq, Repr

/-- An order in a slot: its record, its live fields, and the latched copy of both, if one waits (R22, R23, R34). -/
structure Entry where
  ord : OrderRec
  live : OrderLive
  latch : Option (OrderRec × OrderLive)
  deriving DecidableEq, Repr

/-- A slot: its four-bit generation, and the order it holds. A free slot holds no record, no live fields and no latch
(R20, R21). -/
structure Slot where
  gen : BitVec 4
  entry : Option Entry
  deriving DecidableEq, Repr

/-- The inputs of the condition word as last posted to the Order Table (R43). -/
structure CondWord where
  moving : Bool
  stopped : Bool
  depot : Bool
  night : Bool
  supply : SupplyState
  lowBat : Bool
  doorState : Vector DoorState 6
  doorZones : Vector ZoneSet 6
  watch : Watch
  tOut : Int
  /-- the stale flag posted with `tOut` (R80); no condition reads it -/
  stale : Bool
  frost : Int
  warm : Int
  airValid : Vector Bool 8
  deriving DecidableEq, Repr

inductive Activity where
  | active | inactive
  deriving DecidableEq, Repr

/-- The outcome of HOLD resolution (R51, R53). -/
inductive HoldResult where
  | off
  | setpoint (t : Int)
  deriving DecidableEq, Repr

/-- The winning HOLD order, or why there was none (R51). -/
inductive HoldOrigin where
  | slot (k : SlotId)
  | default
  | parked
  deriving DecidableEq, Repr

/-- The target record of a zone (R51). -/
structure Target where
  activity : Activity
  ts : Option Int
  hold : HoldResult
  holdOrigin : HoldOrigin
  offset : Int
  floor : Option Int
  cap : Nat
  fanOrder : Nat
  fanOrigin : Option SlotId
  deriving DecidableEq, Repr

/-- The Order Table: the slots, the retired-by-part set, the condition word, the mode as last posted, the target records
and the screen level (R20, R36, R43, R51). -/
structure OrderTable where
  slots : Vector Slot 64
  /-- the retired-by-part set, bit k for slot k -/
  retired : BitVec 64
  cond : CondWord
  mode : Mode
  targets : Vector Target 8
  level : Nat
  /-- the expiry of the one-second time base's next boundary (R37), in ms -/
  boundary : Nat
  deriving DecidableEq, Repr

/-! ### Sensor Scanner (chapter 04) -/

inductive SensorState where
  | valid | suspect | lost
  deriving DecidableEq, Repr

/-- The live fields of a sensor channel (R67). -/
structure SensorLive where
  state : SensorState
  last : Int
  count : Nat
  holdTimer : Timer
  refreshTimer : Timer
  deriving DecidableEq, Repr

/-- The Sensor Scanner: the channels, the converter's pass and the held outside temperature (R67 to R69, R77). -/
structure Scanner where
  live : Vector SensorLive 32
  scanTimer : Timer
  /-- the channels of the running pass still to be converted, the next one first; empty when no pass runs (R68) -/
  pass : List SensorId
  /-- a scan expiry has been recorded during the running pass (R69) -/
  recorded : Bool
  tOut : Int
  stale : Bool
  deriving DecidableEq, Repr

/-! ### Zone Regulators (chapter 05) -/

inductive RegState where
  | starting | regulating | noSensor | inactive
  deriving DecidableEq, Repr

/-- The regulator record of a zone (R82), but for `limited-high`, which is high bound or shortfall. -/
structure Regulator where
  state : RegState
  e : Option Int
  p : Int
  i : Int
  f : Int
  d : Nat
  g : Int
  uRaw : Int
  u : Int
  limitedLow : Bool
  highBound : Bool
  shortfall : Bool
  pinst : Nat
  request : Nat
  grant : Nat
  duty : Nat
  fan : Nat
  fresh : Nat
  timer : Timer
  /-- the fan order read at the last expiry (R102) -/
  fanRead : Nat
  /-- the minimum fresh air in use: as read at the last expiry, or as taken at once in INACTIVE (R3, R83) -/
  freshRead : Nat
  deriving DecidableEq, Repr

/-- The section flaps: the demand each zone last posted, as the flaps received it, and the three positions (R4, R95). -/
structure Flaps where
  demand : Vector Nat 8
  posA : Nat
  posB : Nat
  posC : Nat
  deriving DecidableEq, Repr

/-! ### Doorway Monitor (chapter 06) -/

/-- The live fields of a doorway (R104), but for its draft terms, which are computed (R114). `raw` and `accepted` are
true when open. The cap handle is the generation of slot 56 + d. -/
structure Door where
  raw : Bool
  accepted : Bool
  debounceTimer : Timer
  state : DoorState
  holdTimer : Timer
  tailRemaining : Nat
  tailLength : Nat
  tailTimer : Timer
  faultTimer : Timer
  request : Nat
  grant : Nat
  duty : Nat
  capHandle : Option (BitVec 4)
  deriving DecidableEq, Repr

/-- The Doorway Monitor (R104): the doorways, the D last posted to each zone, and its copies of the moving flag, of
each zone's Ts (none while INACTIVE) and of To. -/
structure DoorMonitor where
  doors : Vector Door 6
  posted : Vector Nat 8
  moving : Bool
  ts : Vector (Option Int) 8
  tOut : Int
  deriving DecidableEq, Repr

/-! ### Screen Controller (chapter 07) -/

/-- Request, grant and duty of a glazing heater (R121). -/
structure Heater where
  request : Nat
  grant : Nat
  duty : Nat
  deriving DecidableEq, Repr

/-- The watch record (R121). `heaters` holds the figures of AUX channels 32 to 35. -/
structure ScreenCtl where
  watch : Watch
  initial : Bool
  ta0 : Option Int
  tOut : Int
  stale : Bool
  glass : Option Int
  humidity : Option Int
  tdew : Option Int
  margin : Option Int
  level : Nat
  fan0 : Nat
  fresh0 : Nat
  blower : Nat
  /-- CABDIR, true when asserted -/
  dir : Bool
  flap : Nat
  heaters : Vector Heater 4
  deriving DecidableEq, Repr

/-! ### Supply Monitor (chapter 08) -/

inductive AllowanceStatus where
  | neverReceived | current | lapsed
  deriving DecidableEq, Repr

/-- The live fields of the Supply Monitor (R138), but for the allowance figure and the two allowances in force, which
are computed (R149 to R151). -/
structure SupplyMonitor where
  state : SupplyState
  lastReading : Nat
  confirmTimer : Timer
  gapHoldTimer : Timer
  pregapTimer : Timer
  received : Option Nat
  status : AllowanceStatus
  allowanceTimer : Timer
  /-- battery-low, true when asserted -/
  lowBat : Bool
  mode : Mode
  /-- the time of the next 20 ms line reading (R139), in ms -/
  nextReading : Nat
  deriving DecidableEq, Repr

/-! ### Allocator (chapter 09) -/

/-- A member's entry (R157), but for the effective request, which is the lesser of the first two (R158). -/
structure PoolEntry where
  request : Nat
  avail : Nat
  grant : Nat
  deriving DecidableEq, Repr

/-- The Allocator's two grant tables and what was last posted to them (R157). -/
structure Allocator where
  zones : Vector PoolEntry 8
  curtains : Vector PoolEntry 6
  aux : Vector PoolEntry 4
  supply : SupplyState
  mode : Mode
  lineAllowance : Nat
  auxAllowance : Nat
  deriving DecidableEq, Repr

/-! ### Bank Controller (chapter 09) -/

inductive BankState where
  | opened | precharge | closed | hold | opening | fault | locked
  deriving DecidableEq, Repr

/-- The state an OPENING ends in (R164). -/
inductive OpeningOutcome where
  | opened | fault | locked
  deriving DecidableEq, Repr

/-- The live fields of a bank (R164). -/
structure Bank where
  state : BankState
  ramp : Nat
  prechargeTimer : Timer
  openingTimer : Timer
  rampTimer : Timer
  idleTimer : Timer
  ocRecorded : Bool
  restartPending : Bool
  outcome : OpeningOutcome
  faults : Nat
  supply : SupplyState
  lastLink : Nat
  deriving DecidableEq, Repr

/-- What a channel holds beside its record: the posted duty, the overheated flag and the surface state as last posted
(R79, R175, R176). -/
structure Chan where
  duty : Nat
  overheated : Bool
  surface : Surface
  deriving DecidableEq, Repr

/-! ### Pins -/

/-- The levels at the input pins, as last seen (00_scope.md, Pin list). DINd is `Door.raw`. A reading of AINk is in the
unit of channel k's role. -/
structure Pins where
  vline : Nat
  batLow : Bool
  vlink : Vector Nat 4
  oc : Vector Bool 4
  ain : Vector Int 32
  deriving DecidableEq, Repr

/-! ### The whole part -/

/-- The state of the part. `now`, `posts` and `pending` are the model's own: the time since power-on in ms, the
postings that one block has made and another has not yet taken, oldest first, and the queue of waiting commands. -/
structure State where
  now : Nat
  pins : Pins
  cfg : CabinMap
  link : LinkPort
  orders : OrderTable
  scan : Scanner
  regs : Vector Regulator 8
  flaps : Flaps
  mon : DoorMonitor
  screen : ScreenCtl
  supply : SupplyMonitor
  alloc : Allocator
  banks : Vector Bank 4
  chans : Vector Chan 36
  posts : List Instr
  pending : List Instr
  deriving DecidableEq, Repr

/-- Why the machine would stop with a fault. -/
inductive Fault where
  /-- Raised by no command of this model: the spec gives every row of its table an effect in every state. Kept so that
  the type is not empty; it is safe, since it can only stop a run. -/
  | noEffectGiven
  deriving DecidableEq, Repr

/-- Why a command would have no meaning. -/
inductive Refusal where
  /-- Raised by `exec` alone, for a row that has no meaning yet; safe. No arm of `exec` answers it. -/
  | notModelled (mnemonic : String)
  deriving DecidableEq, Repr

/-! ### The values at power-on -/

def ZoneRec.reset (s : Section) : ZoneRec where
  sect := s
  setpoint := 180
  bandMin := 120
  bandMax := 280
  kp := 80
  ki := 30
  kf := 20
  kd := 4
  ko := 20
  minFresh := 20
  interval := 2

def DoorRec.reset (zones : ZoneSet) : DoorRec where
  zones := zones
  debounce := 200
  tail := 30
  hold := 90
  cap := 40
  noHold := false
  faultDelay := 5

/-- R8's defaults. -/
def ChanRec.reset : ChanRec := { type := .none, rated := 0, group := 0, limit := 800, enabled := false }

/-- R11's defaults. -/
def BankRec.reset : BankRec := { precharge := 800, opening := 300, idle := 60, ramp := 250 }

/-- R12's defaults. -/
def SensorRec.reset : SensorRec := { role := .unused, origin := .internal, hold := 30, run := 3 }

/-- The cabin map at power-on (R2, R5, R8, R11, R12, R14 to R17). -/
def CabinMap.reset : CabinMap where
  zones := #v[.reset .a, .reset .a, .reset .a, .reset .b, .reset .b, .reset .b, .reset .c, .reset .c]
  doors := #v[.reset 0x01, .reset 0x02, .reset 0x04, .reset 0x18, .reset 0x60, .reset 0x80]
  chans := Vector.replicate 36 .reset
  sensors := Vector.replicate 32 .reset
  banks := Vector.replicate 4 .reset
  supply :=
    { low := 400, high := 900, confirm := 500, gapHold := 3, pregap := 10, lineMax := 600, parkLimit := 200,
      timeout := 2, fallback := 150, aux := 30 }
  screen := { risk := 40, fog := 10, hyst := 10, ice := 20, dwell := 120 }
  limits := { mask := 0xFF, bandMin := 160, bandMax := 260, frost := 0, warm := 220, floor := 50, scan := 500 }
  curve := #v[1000, 940, 860, 780, 700, 620, 540, 460, 380, 300, 220, 140, 60, 0, 0, 0]

/-- R183, R186, R188 and R18. The receive buffer and the bytes shifted out are empty (assumption 9). -/
def LinkPort.reset : LinkPort where
  rx := []
  tx := []
  reply := { code := 0, status := .done, payload := [] }
  readPos := 0
  causes := 0
  mask := 0
  vehicle := { moving := false, stopped := true, depot := false, night := false, occupancy := Vector.replicate 8 0 }
  curvePtr := 0

/-- Slot 62 at power-on (R47). -/
def Slot.resetScreen : Slot where
  gen := 0
  entry := some
    { ord :=
        { source := .screen, kind := .screen, zones := 0, value := 0, select := 0x2000, sense := .whenTrue,
          mode := .tail, count := 120, onTime := 0, persist := true }
      live := { state := .inForce, remaining := 120, period := 0, offTime := 0, holds := true, effect := .full }
      latch := none }

/-- Slot 63 at power-on (R48). -/
def Slot.resetBase : Slot where
  gen := 0
  entry := some
    { ord :=
        { source := .base, kind := .floor, zones := 0xFF, value := 50, select := 0, sense := .whenTrue,
          mode := .standing, count := 1, onTime := 0, persist := true }
      live := { state := .inForce, remaining := 1, period := 0, offTime := 0, holds := true, effect := .full }
      latch := none }

/-- The condition word at power-on (R43), with BATLOW released (assumption 4). -/
def CondWord.reset : CondWord where
  moving := false
  stopped := true
  depot := false
  night := false
  supply := .battery
  lowBat := false
  doorState := Vector.replicate 6 .closed
  doorZones := #v[0x01, 0x02, 0x04, 0x18, 0x60, 0x80]
  watch := .unknown
  tOut := -100
  frost := 0
  warm := 220
  stale := true
  airValid := Vector.replicate 8 false

/-- The target record of every zone at power-on (R66). -/
def Target.reset : Target where
  activity := .active
  ts := some 50
  hold := .off
  holdOrigin := .parked
  offset := 0
  floor := some 50
  cap := 100
  fanOrder := 0
  fanOrigin := none

/-- The Order Table at power-on (R20, R21, R36, R47, R48, R66). -/
def OrderTable.reset : OrderTable where
  slots := ((Vector.replicate 64 { gen := 0, entry := none }).set 62 Slot.resetScreen).set 63 Slot.resetBase
  retired := 0
  cond := .reset
  mode := .park
  targets := Vector.replicate 8 .reset
  level := 0
  boundary := 1000

/-- The Sensor Scanner at power-on (R67, R68, R77). -/
def Scanner.reset : Scanner where
  live := Vector.replicate 32 { state := .suspect, last := 0, count := 0, holdTimer := none, refreshTimer := none }
  scanTimer := some 500
  pass := []
  recorded := false
  tOut := -100
  stale := true

/-- A zone's regulator record at power-on (R82); what it reads at an expiry is that of no expiry yet (assumption 5). -/
def Regulator.reset : Regulator where
  state := .starting
  e := none
  p := 0
  i := 0
  f := 0
  d := 0
  g := 0
  uRaw := 0
  u := 0
  limitedLow := false
  highBound := false
  shortfall := false
  pinst := 0
  request := 0
  grant := 0
  duty := 0
  fan := 0
  fresh := 20
  timer := some 2000
  fanRead := 0
  freshRead := 20

/-- A doorway at power-on (R104), with DINd closed (assumption 4) and the default tail time as its tail length in force
(assumption 5). -/
def Door.reset : Door where
  raw := false
  accepted := false
  debounceTimer := none
  state := .closed
  holdTimer := none
  tailRemaining := 0
  tailLength := 30
  tailTimer := none
  faultTimer := none
  request := 0
  grant := 0
  duty := 0
  capHandle := none

/-- The watch record at power-on (R121). -/
def ScreenCtl.reset : ScreenCtl where
  watch := .unknown
  initial := true
  ta0 := none
  tOut := -100
  stale := true
  glass := none
  humidity := none
  tdew := none
  margin := none
  level := 0
  fan0 := 0
  fresh0 := 20
  blower := 0
  dir := false
  flap := 20
  heaters := Vector.replicate 4 { request := 0, grant := 0, duty := 0 }

/-- The Supply Monitor at power-on (R138), with BATLOW released (assumption 4). -/
def SupplyMonitor.reset : SupplyMonitor where
  state := .battery
  lastReading := 0
  confirmTimer := none
  gapHoldTimer := none
  pregapTimer := none
  received := none
  status := .neverReceived
  allowanceTimer := none
  lowBat := false
  mode := .park
  nextReading := 20

/-- The Allocator at power-on (R157). -/
def Allocator.reset : Allocator where
  zones := Vector.replicate 8 { request := 0, avail := 0, grant := 0 }
  curtains := Vector.replicate 6 { request := 0, avail := 0, grant := 0 }
  aux := Vector.replicate 4 { request := 0, avail := 0, grant := 0 }
  supply := .battery
  mode := .park
  lineAllowance := 0
  auxAllowance := 30

/-- A bank at power-on (R164). -/
def Bank.reset : Bank where
  state := .opened
  ramp := 0
  prechargeTimer := none
  openingTimer := none
  rampTimer := none
  idleTimer := none
  ocRecorded := false
  restartPending := false
  outcome := .opened
  faults := 0
  supply := .battery
  lastLink := 0

/-- The input pins as the model takes them at power-on (assumption 4). -/
def Pins.reset : Pins where
  vline := 0
  batLow := false
  vlink := Vector.replicate 4 0
  oc := Vector.replicate 4 false
  ain := Vector.replicate 32 0

/-- The part right after power-on, every doorway input closed and battery-low released, and no command waiting. -/
def State.reset : State where
  now := 0
  pins := .reset
  cfg := .reset
  link := .reset
  orders := .reset
  scan := .reset
  regs := Vector.replicate 8 .reset
  flaps := { demand := Vector.replicate 8 20, posA := 20, posB := 20, posC := 20 }
  mon :=
    { doors := Vector.replicate 6 .reset, posted := Vector.replicate 8 0, moving := false,
      ts := Vector.replicate 8 (some 50), tOut := -100 }
  screen := .reset
  supply := .reset
  alloc := .reset
  banks := Vector.replicate 4 .reset
  chans := Vector.replicate 36 { duty := 0, overheated := false, surface := .noSensor }
  posts := []
  pending := []

end Sys2Proof.Machine
end

