-- ==== Sys2Proof/Machine/Ops.lean ====
section
/-! DEFINITION. The named operations every block uses: tables of records, clamping, timers, postings between blocks,
attention causes, and the handling of a host frame at the Link Port (R181 to R184). -/

namespace Sys2Proof.Machine

/-! ### Tables of records -/

def Tab.get {α : Type} {n : Nat} (t : Vector α n) (i : Fin n) : α := t[i.val]

def Tab.put {α : Type} {n : Nat} (t : Vector α n) (i : Fin n) (x : α) : Vector α n := t.set i.val x i.isLt

def Tab.build {α : Type} {n : Nat} (f : Fin n → α) : Vector α n := Vector.ofFn f

/-! ### Arithmetic (00_scope.md, Units and number conventions) -/

/-- Replace a value outside the range by the nearest limit. -/
def clamp (lo hi x : Int) : Int := max lo (min hi x)

/-- The part of a whole: `x` times `n` divided by `d`, rounded down; 0 when `d` is 0. -/
def share (x n d : Nat) : Nat := x * n / d

/-- An on-fraction in per mille: power over rating, rounded down and limited to 1000; 0 when the rating is 0 (R97, R117,
R134). -/
def dutyOf (grant rating : Nat) : Nat := min 1000 (grant * 1000 / rating)

/-! ### Sets -/

def hasZone (zs : ZoneSet) (z : ZoneId) : Bool := zs.getLsbD z.val

def zonesOf (zs : ZoneSet) : List ZoneId := (List.finRange 8).filter (hasZone zs)

/-- The set of one zone. -/
def oneZone (z : ZoneId) : ZoneSet := 1#8 <<< z.val

/-- All eight zones. -/
def allZones : ZoneSet := 0xFF

/-! ### Postings and causes -/

/-- Post to other blocks: each posting is an event of its own, taken later and oldest first (R83, R129, R145). -/
def State.post (s : State) (l : List Instr) : State := { s with posts := s.posts ++ l }

/-- The eight attention causes (R188). -/
inductive Cause where
  | bankFault | supply | sensorLost | doorwayFault | screenRisk | allowanceStale | orderRetired | frameError
  deriving DecidableEq, Repr

/-- The cause's number, 1 to 8 (R188). -/
def Cause.number : Cause → Nat
  | .bankFault => 1
  | .supply => 2
  | .sensorLost => 3
  | .doorwayFault => 4
  | .screenRisk => 5
  | .allowanceStale => 6
  | .orderRetired => 7
  | .frameError => 8

/-- The set of one cause: bit k - 1 for cause k (R189). -/
def Cause.bit (c : Cause) : Byte := 1#8 <<< (c.number - 1)

/-- A cause raised at the Link Port joins the pending set (R188). -/
def State.raise (s : State) (c : Cause) : State := { s with link := { s.link with causes := s.link.causes ||| c.bit } }

/-! ### Timers -/

/-- A timer started now, to run `ms` milliseconds. -/
def State.startMs (s : State) (ms : Nat) : Timer := some (s.now + ms)

/-- A timer started now, to run `sec` seconds. -/
def State.startSec (s : State) (sec : Nat) : Timer := some (s.now + sec * Config.secondMs)

/-- The clock once an event due at `e` is taken: an expiry is not taken before its time. -/
def State.atTime (s : State) (e : Nat) : State := { s with now := max s.now e }

/-- The expiry of a timer: a stopped timer does not expire, and the expiry of a running one is taken at its time
(assumption 3). -/
def State.onExpiry (s : State) (t : Timer) (f : State → State) : State :=
  match t with
  | none => s
  | some e => f (s.atTime e)

/-! ### The records of numbered objects -/

def State.reg (s : State) (z : ZoneId) : Regulator := Tab.get s.regs z
def State.setReg (s : State) (z : ZoneId) (r : Regulator) : State := { s with regs := Tab.put s.regs z r }
def State.door (s : State) (d : DoorId) : Door := Tab.get s.mon.doors d
def State.setDoor (s : State) (d : DoorId) (x : Door) : State :=
  { s with mon := { s.mon with doors := Tab.put s.mon.doors d x } }
def State.bank (s : State) (b : BankId) : Bank := Tab.get s.banks b
def State.setBank (s : State) (b : BankId) (x : Bank) : State := { s with banks := Tab.put s.banks b x }
def State.chan (s : State) (c : ChanId) : Chan := Tab.get s.chans c
def State.setChan (s : State) (c : ChanId) (x : Chan) : State := { s with chans := Tab.put s.chans c x }
def State.sensor (s : State) (k : SensorId) : SensorLive := Tab.get s.scan.live k
def State.setSensor (s : State) (k : SensorId) (x : SensorLive) : State :=
  { s with scan := { s.scan with live := Tab.put s.scan.live k x } }
def State.slot (s : State) (k : SlotId) : Slot := Tab.get s.orders.slots k
def State.setSlot (s : State) (k : SlotId) (x : Slot) : State :=
  { s with orders := { s.orders with slots := Tab.put s.orders.slots k x } }
def State.heater (s : State) (a : AuxId) : Heater := Tab.get s.screen.heaters a
def State.setHeater (s : State) (a : AuxId) (x : Heater) : State :=
  { s with screen := { s.screen with heaters := Tab.put s.screen.heaters a x } }
def State.target (s : State) (z : ZoneId) : Target := Tab.get s.orders.targets z

def State.zoneRec (s : State) (z : ZoneId) : ZoneRec := Tab.get s.cfg.zones z
def State.doorRec (s : State) (d : DoorId) : DoorRec := Tab.get s.cfg.doors d
def State.chanRec (s : State) (c : ChanId) : ChanRec := Tab.get s.cfg.chans c
def State.bankRec (s : State) (b : BankId) : BankRec := Tab.get s.cfg.banks b
def State.sensorRec (s : State) (k : SensorId) : SensorRec := Tab.get s.cfg.sensors k

/-- The output channel of an AUX channel's number (R8). -/
def auxChan (a : AuxId) : ChanId := ⟨32 + a.val, by omega⟩

/-- The bank a channel belongs to; none for an AUX channel (R8). -/
def bankOf (c : ChanId) : Option BankId :=
  if h : c.val < 32 then some ⟨c.val / 8, by omega⟩ else none

/-- The AUX number of a channel; none for a bank channel (R8). -/
def auxOf (c : ChanId) : Option AuxId :=
  if h : 32 ≤ c.val then some ⟨c.val - 32, by omega⟩ else none

/-- The eight channels of a bank (R8). -/
def bankChans (b : BankId) : List ChanId := (List.finRange 8).map fun i => ⟨8 * b.val + i.val, by omega⟩

/-- The slot of doorway d's cap order, 56 + d (R20). -/
def capSlot (d : DoorId) : SlotId := ⟨56 + d.val, by omega⟩

/-- The slot of the automatic screen order (R20). -/
def screenSlot : SlotId := 62

/-- The slot of the base floor order (R20). -/
def baseSlot : SlotId := 63

/-! ### Replies and transactions (R181, R183) -/

/-- The status byte of a reply (R191). -/
def Status.byte : Status → Byte
  | .done => 0
  | .adjusted => 1
  | .full => 2
  | .stale => 3
  | .denied => 4
  | .badField => 5
  | .busy => 6
  | .wrongState => 7
  | .held => 8
  | .badFrame => 9

/-- DONE, or ADJUSTED where a value was clamped or forced (R184). -/
def doneOr (adjusted : Bool) : Status := if adjusted then .adjusted else .done

/-- The reply as bytes: the code, the status, the payload length, the payload (R183, R191). -/
def Reply.bytes (r : Reply) : List Byte := r.code :: r.status.byte :: BitVec.ofNat 8 r.payload.length :: r.payload

/-- What a transaction does at the port before its command is taken: the first 31 bytes clocked are received, the reply
bytes from the read position are shifted out for them, the read position advances, and filler is shifted out for the
rest (R181, R183). -/
def LinkPort.clock (p : LinkPort) (bytes : List Byte) : LinkPort :=
  let n := min bytes.length Config.maxRxBytes
  let out := (p.reply.bytes.drop p.readPos).take n
  { p with
    rx := bytes.take Config.maxRxBytes
    tx := out ++ List.replicate (bytes.length - out.length) Config.fillerByte
    readPos := min p.reply.bytes.length (p.readPos + n) }

def State.clock (s : State) (bytes : List Byte) : State := { s with link := s.link.clock bytes }

/-- The reply replaces the buffer and the read position returns to 0 (R183). -/
def State.reply (s : State) (code : Byte) (status : Status) (payload : List Byte) : State :=
  { s with link := { s.link with reply := { code := code, status := status, payload := payload }, readPos := 0 } }

/-- How a block answers a command: the state after it, and the reply's status and payload. -/
structure Answer where
  state : State
  status : Status
  payload : List Byte

/-- A command refused: nothing changes and the reply has an empty payload (R184). -/
def State.refuse (s : State) (status : Status) : Answer := { state := s, status := status, payload := [] }

/-- A well-formed frame other than NOP: the transaction, the origin check, the owning block's answer, the reply (R183,
R184). -/
def State.frame (s : State) (code : Byte) (h : Header) (payload : List Byte) (allowed : Origin → Bool)
    (body : State → Answer) : State :=
  let s := s.clock (transactionBytes code h payload)
  let a := if allowed h.origin then body s else s.refuse .denied
  a.state.reply code a.status a.payload

/-! ### Which origins a command is taken from (R182) -/

def anyOrigin (_ : Origin) : Bool := true

def fleetOrService : Origin → Bool
  | .fleet | .service => true
  | .driver | .depot => false

def notDriver : Origin → Bool
  | .driver => false
  | .service | .fleet | .depot => true

def serviceOnly : Origin → Bool
  | .service => true
  | .driver | .fleet | .depot => false

end Sys2Proof.Machine
end

