-- ==== Sys2Proof/Machine/Views.lean ====
section
/-! DEFINITION. What the spec defines as a function of other state: the Scanner's derived quantities, availability and
installed heat, the allowances in force, the state and driven duty of the output channels, the outputs that follow a
state. -/

namespace Sys2Proof.Machine

/-! ### Sensor Scanner (R76 to R79) -/

/-- The last values of the channels with role `r` whose state is VALID or SUSPECT. -/
def State.readingsOf (s : State) (r : Role) : List Int :=
  (List.finRange 32).filterMap fun k =>
    if (s.sensorRec k).role = r ∧ (s.sensor k).state ≠ .lost then some (s.sensor k).last else none

/-- The air temperature Ta(z), none when unknown (R76). -/
def State.ta (s : State) (z : ZoneId) : Option Int :=
  match s.readingsOf (.zoneAir z) with
  | [] => none
  | v :: vs => some ((vs.foldl (· + ·) v).tdiv (vs.length + 1 : Nat))

/-- The air validity of a zone (R76). -/
def State.airValid (s : State) (z : ZoneId) : Bool :=
  (List.finRange 32).any fun k => decide ((s.sensorRec k).role = .zoneAir z ∧ (s.sensor k).state = .valid)

/-- The lowest reading of the OUTSIDE channels that are VALID or SUSPECT, none when there is none (R77). -/
def State.outsideReading (s : State) : Option Int :=
  match s.readingsOf .outside with
  | [] => none
  | v :: vs => some (vs.foldl min v)

/-- The glass temperature, none when absent (R78). -/
def State.glass (s : State) : Option Int := (s.readingsOf .glass).head?

/-- The cab humidity, none when absent (R78). -/
def State.humidity (s : State) : Option Int := (s.readingsOf .cabHumidity).head?

/-- The surface sensor of an output channel: the sensor channel whose role is SURFACE(c) (R8, R12). -/
def State.surfaceSensor (s : State) (c : ChanId) : Option SensorId :=
  (List.finRange 32).find? fun k => decide ((s.sensorRec k).role = .surface c)

/-- The surface state the Scanner gives an output channel (R79). -/
def State.surfaceState (s : State) (c : ChanId) : Surface :=
  match s.surfaceSensor c with
  | none => .noSensor
  | some k => if (s.sensor k).state = .lost then .lost else .reading (s.sensor k).last

/-! ### Availability and installed heat (R91, R116, R132, R157, R178) -/

/-- The consumer that owns a channel of this type; a channel of type NONE has none (R176). -/
def ChanType.consumer : ChanType → Option Consumer
  | .none => Option.none
  | .convector z => some (.zone z)
  | .curtain d => some (.doorway d)
  | .screen => some .screen
  | .mirror => some .mirror

/-- DISABLED: not enabled, or the surface sensor is LOST (R174). -/
def State.disabled (s : State) (c : ChanId) : Bool :=
  !(s.chanRec c).enabled || decide ((s.chan c).surface = .lost)

/-- The channel's bank, if it has one, is in FAULT or LOCKED. -/
def State.bankOut (s : State) (c : ChanId) : Bool :=
  match bankOf c with
  | none => false
  | some b => decide ((s.bank b).state = .fault ∨ (s.bank b).state = .locked)

/-- A channel's availability (R178). -/
def State.available (s : State) (c : ChanId) : Bool := !s.disabled c && !s.bankOut c

/-- The convector channels of a zone. -/
def State.convectors (s : State) (z : ZoneId) : List ChanId :=
  (List.finRange 36).filter fun c => decide ((s.chanRec c).type = .convector z)

/-- The installed heat of a zone as its channels stand (R91). -/
def State.pinstNow (s : State) (z : ZoneId) : Nat :=
  ((s.convectors z).filter s.available).foldl (fun n c => n + (s.chanRec c).rated) 0

/-- A doorway's curtain: the bank channel of type CURTAIN(d), if there is one (R5, R116). -/
def State.curtainChan (s : State) (d : DoorId) : Option ChanId :=
  (List.finRange 36).find? fun c => decide ((s.chanRec c).type = .curtain d)

/-- The rated power of a doorway's curtain while it is available, else 0 (R116, R158). -/
def State.curtainHeat (s : State) (d : DoorId) : Nat :=
  match s.curtainChan d with
  | none => 0
  | some c => if s.available c then (s.chanRec c).rated else 0

/-- Whether the AUX channel is a glazing heater (R157). -/
def State.isHeater (s : State) (a : AuxId) : Bool :=
  match (s.chanRec (auxChan a)).type with
  | .screen | .mirror => true
  | .none | .convector _ | .curtain _ => false

/-- The rated power of a glazing heater while it is available, else 0 (R132, R158). -/
def State.auxHeat (s : State) (a : AuxId) : Nat :=
  if s.isHeater a && s.available (auxChan a) then (s.chanRec (auxChan a)).rated else 0

/-- The AUX channel of type SCREEN, if one is configured (R132). -/
def State.screenHeater (s : State) : Option AuxId :=
  (List.finRange 4).find? fun a => decide ((s.chanRec (auxChan a)).type = .screen)

/-- The AUX channels of type MIRROR, in channel order (R133). -/
def State.mirrors (s : State) : List AuxId :=
  (List.finRange 4).filter fun a => decide ((s.chanRec (auxChan a)).type = .mirror)

/-! ### The allowances (R149 to R151) -/

/-- The allowance figure (R149). -/
def State.figure (s : State) : Nat :=
  match s.supply.status, s.supply.received with
  | .current, some v => min v s.cfg.supply.lineMax
  | .current, none | .neverReceived, _ | .lapsed, _ => s.cfg.supply.fallback

/-- The line allowance in force (R150). -/
def State.lineAllowance (s : State) : Nat :=
  match s.supply.state, s.supply.mode with
  | .line, .run => s.figure
  | .line, .park => min s.figure s.cfg.supply.parkLimit
  | .pregap, _ | .gap, _ | .battery, _ => 0

/-- The aux allowance in force (R151). -/
def State.auxAllowance (s : State) : Nat := if s.supply.lowBat then 0 else s.cfg.supply.aux

/-! ### Output channels (R174, R177) -/

/-- The line inhibit, released while the supply state is LINE (R174). -/
def State.lineInhibit (s : State) : Bool := decide (s.supply.state ≠ .line)

/-- The four reasons for which a channel may be MASKED, as READ_CHANNEL reports them: bit 0 bank not CLOSED, bit 1 group
not below the ramp position, bit 2 overheated, bit 3 line inhibit (R174, R185). -/
def State.maskReasons (s : State) (c : ChanId) : Nat :=
  (if (s.chan c).overheated then 4 else 0) +
  match bankOf c with
  | none => 0
  | some b =>
    (if (s.bank b).state = .closed then 0 else 1) + (if (s.chanRec c).group < (s.bank b).ramp then 0 else 2) +
      (if s.lineInhibit then 8 else 0)

/-- A channel is LIVE while it is not DISABLED and no reason masks it (R174). -/
def State.live (s : State) (c : ChanId) : Bool := !s.disabled c && s.maskReasons c == 0

/-- The state of an output channel (R174). -/
inductive ChanState where
  | disabled | masked | live
  deriving DecidableEq, Repr

def State.chanState (s : State) (c : ChanId) : ChanState :=
  if s.disabled c then .disabled else if s.live c then .live else .masked

/-- Whether the channel is a bank channel. -/
def isBankChan (c : ChanId) : Bool := decide (c.val < 32)

/-- The channels of the same pool as channel c: the bank channels, or the AUX channels (R177). -/
def poolChans (bankPool : Bool) : List ChanId := (List.finRange 36).filter fun c => isBankChan c == bankPool

/-- S: the sum over the LIVE channels of a pool of rated power times posted duty (R177). -/
def State.drawSum (s : State) (bankPool : Bool) : Nat :=
  ((poolChans bankPool).filter s.live).foldl (fun n c => n + (s.chanRec c).rated * (s.chan c).duty) 0

/-- L: 1000 times the pool's allowance in force (R177). -/
def State.drawLimit (s : State) (bankPool : Bool) : Nat :=
  1000 * (if bankPool then s.lineAllowance else s.auxAllowance)

/-- The driven duty of a channel: its posted duty, cut by the draw limit of its pool; 0 unless LIVE (R176, R177). -/
def State.drivenDuty (s : State) (c : ChanId) : Nat :=
  if s.live c then
    let sum := s.drawSum (isBankChan c)
    let limit := s.drawLimit (isBankChan c)
    if sum ≤ limit then (s.chan c).duty else share (s.chan c).duty limit sum
  else 0

/-! ### Banks (R164, R165, R168) -/

/-- At least one of the bank's channels is not DISABLED and has a posted duty above 0: the test of eligibility (R165)
and of work (R168). -/
def State.hasWork (s : State) (b : BankId) : Bool :=
  (bankChans b).any fun c => !s.disabled c && decide (0 < (s.chan c).duty)

/-- KPREb (R164). -/
def State.kpre (s : State) (b : BankId) : Bool := decide ((s.bank b).state = .precharge)

/-- KMAINb (R164). -/
def State.kmain (s : State) (b : BankId) : Bool := decide ((s.bank b).state = .closed ∨ (s.bank b).state = .hold)

/-! ### Doorways (R114 to R116) -/

/-- The open value of a draft term (R114). -/
def openDraft (kd : Nat) (ts : Option Int) (tOut : Int) : Nat :=
  match ts with
  | none => 0
  | some t => kd * (t - tOut).toNat / 10

/-- A figure that is full in OPEN, fades over TAIL and is 0 in every other state (R114, R116). -/
def Door.faded (d : Door) (x : Nat) : Nat :=
  match d.state with
  | .opened => x
  | .tail => share x d.tailRemaining d.tailLength
  | .closed | .held | .fault => 0

/-- The draft term of doorway d for zone z; 0 for a zone it does not serve (R114). -/
def State.draftTerm (s : State) (d : DoorId) (z : ZoneId) : Nat :=
  if hasZone (s.doorRec d).zones z then
    (s.door d).faded (openDraft (s.zoneRec z).kd (Tab.get s.mon.ts z) s.mon.tOut)
  else 0

/-- D(z): the sum of the draft terms of the doorways serving z, limited to 1000 (R115). -/
def State.draftOf (s : State) (z : ZoneId) : Nat :=
  min 1000 ((List.finRange 6).foldl (fun n d => n + s.draftTerm d z) 0)

/-- A doorway's curtain request (R116), with the curtain channel as it stands (assumption 41). -/
def State.curtainRequest (s : State) (d : DoorId) : Nat := (s.door d).faded (s.curtainHeat d)

/-! ### Zones and flaps (R4, R82) -/

/-- Limited-high: high bound or shortfall (R82, R90). -/
def Regulator.limitedHigh (r : Regulator) : Bool := r.highBound || r.shortfall

/-- The position of a section's flap: the greatest demand among its members, 0 with none (R4). -/
def State.flapOf (s : State) (x : Section) : Nat :=
  (List.finRange 8).foldl (fun n z => if (s.zoneRec z).sect = x then max n (Tab.get s.flaps.demand z) else n) 0

/-! ### The pins the part drives -/

/-- ATTN: asserted while a pending cause is not masked (R188). -/
def State.attn (s : State) : Bool := s.link.causes &&& ~~~s.link.mask != 0

/-- FAN0 carries the cab blower level, FAN1 to FAN7 the zones' fan levels (R94, R130). -/
def State.fanOutput (s : State) (z : ZoneId) : Nat := if z = 0 then s.screen.blower else (s.reg z).fan

/-- The on-fraction of the switch output CHn (R176). -/
def State.chOutput (s : State) (c : ChanId) : Nat := s.drivenDuty c

end Sys2Proof.Machine
end

