-- ==== Sys2Proof/Machine/Operands.lean ====
section
/-! DEFINITION. The operand forms: how the words and bytes of a payload are read (R185, R191, R192), the checks and
clamps each record goes through (R1 to R16, R24 to R28), and how values are carried in replies (R185). -/

namespace Sys2Proof.Machine

/-! ### Reading numbers, enumerations, flags and sets (R185) -/

/-- A number read as signed and clamped to its range, and whether it was clamped (R1, R185). -/
def number (lo hi : Int) (w : Word) : Int × Bool := (clamp lo hi w.toInt, clamp lo hi w.toInt != w.toInt)

/-- A number whose range holds no negative value. -/
def natural (lo hi : Nat) (w : Word) : Nat × Bool := ((number lo hi w).1.toNat, (number lo hi w).2)

/-- The number of an object, if it names one of n. -/
def objectOf (n : Nat) (b : Byte) : Option (Fin n) := if h : b.toNat < n then some ⟨b.toNat, h⟩ else none

/-- A yes/no flag: 1 for yes, 0 for no, anything else out of its values (R1, R185). -/
def flagOf (w : Word) : Option Bool := if w = 0 then some false else if w = 1 then some true else none

/-- A set of zones carried in a word; a bit above bit 7 names a zone that does not exist (R1, R185). -/
def zoneSetOf (w : Word) : Option ZoneSet := if w.hi = 0 then some w.lo else none

/-- A handle: BAD_FIELD where the slot byte is above 63 or the generation byte above 15 (R191). -/
def handleOf (k : HandleBytes) : Option (SlotId × BitVec 4) :=
  match objectOf 64 k.slot with
  | some n => if k.gen.toNat < 16 then some (n, k.gen.setWidth 4) else none
  | none => none

def sectionOf (w : Word) : Option Section :=
  if w = 0 then some .a else if w = 1 then some .b else if w = 2 then some .c else none

def sensorOriginOf (w : Word) : Option SensorOrigin :=
  if w = 0 then some .internal else if w = 1 then some .external else none

/-- A channel type: the kind in the high byte, the zone or doorway in the low byte, or 0 (R8, R185). -/
def chanTypeOf (w : Word) : Option ChanType :=
  if w.hi = 0 then if w.lo = 0 then some .none else none
  else if w.hi = 1 then (objectOf 8 w.lo).map .convector
  else if w.hi = 2 then (objectOf 6 w.lo).map .curtain
  else if w.hi = 3 then if w.lo = 0 then some .screen else none
  else if w.hi = 4 then if w.lo = 0 then some .mirror else none
  else none

/-- A sensor role: the kind in the high byte, the zone or channel in the low byte, or 0 (R12, R185). -/
def roleOf (w : Word) : Option Role :=
  if w.hi = 0 then if w.lo = 0 then some .unused else none
  else if w.hi = 1 then if w.lo = 0 then some .lineUnused else none
  else if w.hi = 2 then (objectOf 8 w.lo).map .zoneAir
  else if w.hi = 3 then (objectOf 36 w.lo).map .surface
  else if w.hi = 4 then if w.lo = 0 then some .outside else none
  else if w.hi = 5 then if w.lo = 0 then some .glass else none
  else if w.hi = 6 then if w.lo = 0 then some .cabHumidity else none
  else none

/-! ### Configuration records: the enumerated and structural checks and the clamps (R1, steps 2 and 3)

Each answers none for BAD_FIELD, else the record after clamping and whether a field was clamped. -/

/-- R2: zone 0 is in section A only. -/
def zoneRecOf (z : ZoneId) (w : ZoneWords) : Option (ZoneRec × Bool) :=
  match sectionOf w.sect with
  | none => none
  | some x =>
    if z = 0 ∧ x ≠ .a then none
    else
      let setpoint := number 100 300 w.setpoint
      let bandMin := number 50 200 w.bandMin
      let bandMax := number 160 300 w.bandMax
      let kp := natural 0 500 w.kp
      let ki := natural 0 255 w.ki
      let kf := natural 0 100 w.kf
      let kd := natural 0 50 w.kd
      let ko := natural 0 50 w.ko
      let minFresh := natural 0 100 w.minFresh
      let interval := natural 1 10 w.interval
      some
        ({ sect := x, setpoint := setpoint.1, bandMin := bandMin.1, bandMax := bandMax.1, kp := kp.1, ki := ki.1,
           kf := kf.1, kd := kd.1, ko := ko.1, minFresh := minFresh.1, interval := interval.1 },
          setpoint.2 || bandMin.2 || bandMax.2 || kp.2 || ki.2 || kf.2 || kd.2 || ko.2 || minFresh.2 || interval.2)

/-- R2's cross-field check. -/
def ZoneRec.crossOk (r : ZoneRec) : Bool := decide (r.bandMin ≤ r.bandMax)

/-- R5: the set of served zones is not empty. -/
def doorRecOf (w : DoorWords) : Option (DoorRec × Bool) :=
  match zoneSetOf w.zones, flagOf w.noHold with
  | some zones, some noHold =>
    if zones = 0 then none
    else
      let debounce := natural 50 1000 w.debounce
      let tail := natural 5 120 w.tail
      let hold := natural 30 600 w.hold
      let cap := natural 0 100 w.cap
      let faultDelay := natural 1 30 w.faultDelay
      some
        ({ zones := zones, debounce := debounce.1, tail := tail.1, hold := hold.1, cap := cap.1, noHold := noHold,
           faultDelay := faultDelay.1 },
          debounce.2 || tail.2 || hold.2 || cap.2 || faultDelay.2)
  | _, _ => none

/-- R8's structural constraints on the type of channel c: what a bank channel and an AUX channel may be, one CURTAIN(d)
for each doorway, one SCREEN. -/
def State.chanTypeOk (s : State) (c : ChanId) (t : ChanType) : Bool :=
  match t with
  | .none => true
  | .convector _ => isBankChan c
  | .curtain d =>
    isBankChan c && (List.finRange 36).all fun c' =>
      decide (c' = c ∨ isBankChan c' = false ∨ (s.chanRec c').type ≠ .curtain d)
  | .screen =>
    !isBankChan c && (List.finRange 36).all fun c' =>
      decide (c' = c ∨ isBankChan c' = true ∨ (s.chanRec c').type ≠ .screen)
  | .mirror => !isBankChan c

def State.chanRecOf (s : State) (c : ChanId) (w : ChanWords) : Option (ChanRec × Bool) :=
  match chanTypeOf w.type, flagOf w.enabled with
  | some type, some enabled =>
    if s.chanTypeOk c type then
      let rated := natural 0 100 w.rated
      let group := natural 0 7 w.group
      let limit := number 200 2000 w.limit
      some
        ({ type := type, rated := rated.1, group := group.1, limit := limit.1, enabled := enabled },
          rated.2 || group.2 || limit.2)
    else none
  | _, _ => none

/-- R8's cross-field check: a channel of type NONE is not enabled. -/
def ChanRec.crossOk (r : ChanRec) : Bool := !(r.enabled && decide (r.type = .none))

/-- How many sensor channels other than k have role r. -/
def State.othersWithRole (s : State) (k : SensorId) (r : Role) : Nat :=
  ((List.finRange 32).filter fun k' => decide (k' ≠ k ∧ (s.sensorRec k').role = r)).length

/-- R12's limits on how many channels may have a role; a record that keeps the channel's role is not refused by
them. -/
def State.roleOk (s : State) (k : SensorId) (r : Role) : Bool :=
  decide (r = (s.sensorRec k).role) ||
    match r with
    | .zoneAir _ => decide (s.othersWithRole k r < 3)
    | .surface _ | .glass | .cabHumidity => decide (s.othersWithRole k r < 1)
    | .unused | .lineUnused | .outside => true

def State.sensorRecOf (s : State) (k : SensorId) (w : SensorWords) : Option (SensorRec × Bool) :=
  match roleOf w.role, sensorOriginOf w.origin with
  | some role, some origin =>
    if s.roleOk k role then
      let hold := natural 5 300 w.hold
      let run := natural 1 8 w.run
      some ({ role := role, origin := origin, hold := hold.1, run := run.1 }, hold.2 || run.2)
    else none
  | _, _ => none

/-- R11. -/
def bankRecOf (w : BankWords) : BankRec × Bool :=
  let precharge := natural 100 2000 w.precharge
  let opening := natural 100 1000 w.opening
  let idle := natural 10 600 w.idle
  let ramp := natural 50 2000 w.ramp
  ({ precharge := precharge.1, opening := opening.1, idle := idle.1, ramp := ramp.1 },
    precharge.2 || opening.2 || idle.2 || ramp.2)

/-- R14: the ranges, and a fallback greater than the line maximum clamped to it. -/
def supplyRecOf (w : SupplyWords) : SupplyRec × Bool :=
  let low := natural 200 800 w.low
  let high := natural 500 1000 w.high
  let confirm := natural 100 5000 w.confirm
  let gapHold := natural 1 30 w.gapHold
  let pregap := natural 2 60 w.pregap
  let lineMax := natural 0 1200 w.lineMax
  let parkLimit := natural 0 1200 w.parkLimit
  let timeout := natural 1 10 w.timeout
  let fallback := natural 0 1200 w.fallback
  let aux := natural 0 100 w.aux
  ({ low := low.1, high := high.1, confirm := confirm.1, gapHold := gapHold.1, pregap := pregap.1,
     lineMax := lineMax.1, parkLimit := parkLimit.1, timeout := timeout.1, fallback := min fallback.1 lineMax.1,
     aux := aux.1 },
    low.2 || high.2 || confirm.2 || gapHold.2 || pregap.2 || lineMax.2 || parkLimit.2 || timeout.2 || fallback.2 ||
      aux.2 || decide (lineMax.1 < fallback.1))

/-- R14's cross-field check on the window. -/
def SupplyRec.crossOk (r : SupplyRec) : Bool := decide (r.low < r.high)

/-- R15. -/
def screenRecOf (w : ScreenWords) : ScreenRec × Bool :=
  let risk := number 10 200 w.risk
  let fog := number 0 100 w.fog
  let hyst := number 5 50 w.hyst
  let ice := number (-100) 100 w.ice
  let dwell := natural 10 600 w.dwell
  ({ risk := risk.1, fog := fog.1, hyst := hyst.1, ice := ice.1, dwell := dwell.1 },
    risk.2 || fog.2 || hyst.2 || ice.2 || dwell.2)

/-- R15's cross-field check. -/
def ScreenRec.crossOk (r : ScreenRec) : Bool := decide (r.fog < r.risk)

/-- R16. -/
def limitsRecOf (w : LimitsWords) : Option (LimitsRec × Bool) :=
  match zoneSetOf w.mask with
  | none => none
  | some mask =>
    let bandMin := number 100 300 w.bandMin
    let bandMax := number 100 300 w.bandMax
    let frost := number (-200) 100 w.frost
    let warm := number 100 350 w.warm
    let floor := number 0 150 w.floor
    let scan := natural 100 2000 w.scan
    some
      ({ mask := mask, bandMin := bandMin.1, bandMax := bandMax.1, frost := frost.1, warm := warm.1,
         floor := floor.1, scan := scan.1 },
        bandMin.2 || bandMax.2 || frost.2 || warm.2 || floor.2 || scan.2)

/-- R16's cross-field check. -/
def LimitsRec.crossOk (r : LimitsRec) : Bool := decide (r.bandMin ≤ r.bandMax)

/-! ### The order record (R24, R25, R27, R28, R192) -/

def kindOf (w : Word) : Option Kind :=
  if w = 0 then some .hold
  else if w = 1 then some .offset
  else if w = 2 then some .floor
  else if w = 3 then some .cap
  else if w = 4 then some .vent
  else if w = 5 then some .screen
  else none

def lifetimeOf (w : Word) : Option Lifetime :=
  if w = 0 then some .standing
  else if w = 1 then some .countdown
  else if w = 2 then some .tail
  else if w = 3 then some .pulse
  else none

def Origin.source : Origin → Source
  | .service => .service
  | .driver => .driver
  | .fleet => .fleet
  | .depot => .depot

/-- The order record as read from its 14 bytes, its source taken from the origin; none where an enumerated field is out
of its values (R22, R192). -/
def orderOf (o : Origin) (w : OrderWords) : Option OrderRec :=
  match kindOf w.kind, lifetimeOf w.mode with
  | some kind, some mode =>
    if w.flags &&& 0xFC#8 = 0 then
      some
        { source := Origin.source o, kind := kind, zones := w.zones, value := w.value.toInt, select := w.select,
          sense := if w.flags.getLsbD 0 then .unlessTrue else .whenTrue, mode := mode,
          count := if w.count = 0 then 65536 else w.count.toNat, onTime := w.onTime.toNat,
          persist := w.flags.getLsbD 1 }
    else none
  | _, _ => none

/-- Kind is one of the five that bear zones (R22). -/
def Kind.bearsZones : Kind → Bool
  | .screen => false
  | .hold | .offset | .floor | .cap | .vent => true

/-- The PULSE checks of R25. -/
def OrderRec.pulseOk (r : OrderRec) : Bool :=
  !(decide (r.mode = .pulse)) || (decide (r.count ≠ 1) && decide (r.onTime = 0 ∨ r.onTime < r.count))

/-- The structural checks of R25. -/
def OrderRec.structureOk (r : OrderRec) : Bool := !(r.kind.bearsZones && decide (r.zones = 0)) && r.pulseOk

/-- R24's range of a value by kind. -/
def clampValue (k : Kind) (v : Int) : Int :=
  match k with
  | .hold => if v = 0 then 0 else clamp 100 300 v
  | .offset => clamp (-80) 80 v
  | .floor => clamp 0 150 v
  | .cap => clamp 0 100 v
  | .vent => clamp 0 7 v
  | .screen => clamp 0 2 v

/-- R27's limits on the value a DRIVER command carries, applied after R24's. -/
def driverClamp (l : LimitsRec) (k : Kind) (v : Int) : Int :=
  match k with
  | .hold => if v = 0 then 0 else clamp l.bandMin l.bandMax v
  | .offset => clamp (-30) 30 v
  | .floor | .cap | .vent | .screen => v

/-- The value after the clamps that a command of origin o meets (R24, R27). -/
def clampFor (l : LimitsRec) (o : Origin) (k : Kind) (v : Int) : Int :=
  if o = .driver then driverClamp l k (clampValue k v) else clampValue k v

/-- An on-time is 0 outside PULSE (R25). -/
def adjustOnTime (r : OrderRec) : Nat := if r.mode = .pulse then r.onTime else 0

/-- The record as PLACE stores it: R25's adjustments and the clamps of R24 and R27. -/
def adjustPlaced (l : LimitsRec) (o : Origin) (r : OrderRec) : OrderRec :=
  { r with
    zones := if r.kind.bearsZones then r.zones else 0
    onTime := adjustOnTime r
    value := clampFor l o r.kind r.value
    persist := if o = .driver then false else r.persist }

/-- The kinds an origin may place, by the table of R26, which gives FLEET no SCREEN; R128 tells of a fleet order of kind
SCREEN (assumption 37). -/
def mayPlace (o : Origin) (k : Kind) : Bool :=
  match o, k with
  | .service, _ => true
  | .driver, .hold | .driver, .offset | .driver, .vent | .driver, .screen => true
  | .driver, .floor | .driver, .cap => false
  | .fleet, .screen => false
  | .fleet, .hold | .fleet, .offset | .fleet, .floor | .fleet, .cap | .fleet, .vent => true
  | .depot, .hold | .depot, .floor | .depot, .vent => true
  | .depot, .offset | .depot, .cap | .depot, .screen => false

/-- The sources whose orders an origin may amend and retire (R26). -/
def mayAmend (o : Origin) (src : Source) : Bool :=
  match o, src with
  | .service, .service | .service, .driver | .service, .fleet | .service, .depot => true
  | .driver, .driver => true
  | .fleet, .driver | .fleet, .fleet | .fleet, .depot => true
  | .depot, .depot => true
  | _, _ => false

/-- The rights PLACE checks: the kind (R26), the driver zone mask (R27), the depot lifetime limit (R28). -/
def placeAllowed (l : LimitsRec) (o : Origin) (r : OrderRec) : Bool :=
  mayPlace o r.kind &&
    !(decide (o = .driver) && r.kind.bearsZones && decide (r.zones &&& ~~~l.mask ≠ 0)) &&
    !(decide (o = .depot) && decide (r.mode = .tail ∨ r.mode = .pulse))

/-! ### Writing values into replies (R185) -/

/-- A number as one signed word. -/
def wordOf (x : Int) : Word := BitVec.ofInt 16 x

/-- A number that may be unknown, absent or none: none is carried as -32768. -/
def wordOfOpt (x : Option Int) : Word := wordOf (x.getD (-32768))

/-- A yes/no flag, 1 for yes. -/
def wordOfBool (b : Bool) : Word := if b then 1 else 0

/-- The whole units of `unit` ms left on a timer, rounded up; none when stopped. -/
def State.left (s : State) (unit : Nat) (t : Timer) : Option Nat :=
  t.map fun e => (e - s.now + (unit - 1)) / unit

/-- A timer's word in ms: the time left, or -1 when stopped. -/
def State.msWord (s : State) (t : Timer) : Word :=
  match s.left 1 t with
  | none => wordOf (-1)
  | some n => wordOf n

/-- A timer's word in seconds, rounded up, or -1 when stopped. -/
def State.secWord (s : State) (t : Timer) : Word :=
  match s.left Config.secondMs t with
  | none => wordOf (-1)
  | some n => wordOf n

def byteOf (n : Nat) : Byte := BitVec.ofNat 8 n

/-- A handle as carried (R191). -/
def handleWire (k : SlotId) (g : BitVec 4) : List Byte := [byteOf k.val, g.setWidth 8]

/-- A set of slots in eight bytes, slot 0 in the least significant bit of the last byte. -/
def slotSetBytes (x : BitVec 64) : List Byte :=
  [7, 6, 5, 4, 3, 2, 1, 0].map fun i => (x >>> (8 * i)).setWidth 8

/-! The position of each named value in the list its owning rule gives (R185). -/

def SupplyState.pos : SupplyState → Nat
  | .line => 0 | .pregap => 1 | .gap => 2 | .battery => 3

def Mode.pos : Mode → Nat
  | .run => 0 | .park => 1

def Watch.pos : Watch → Nat
  | .clear => 0 | .risk => 1 | .fog => 2 | .ice => 3 | .unknown => 4

def DoorState.pos : DoorState → Nat
  | .closed => 0 | .opened => 1 | .tail => 2 | .held => 3 | .fault => 4

def ChanType.word : ChanType → Word
  | .none => 0x0000
  | .convector z => 0x0100 ||| wordOf z.val
  | .curtain d => 0x0200 ||| wordOf d.val
  | .screen => 0x0300
  | .mirror => 0x0400

def Role.word : Role → Word
  | .unused => 0x0000
  | .lineUnused => 0x0100
  | .zoneAir z => 0x0200 ||| wordOf z.val
  | .surface c => 0x0300 ||| wordOf c.val
  | .outside => 0x0400
  | .glass => 0x0500
  | .cabHumidity => 0x0600

def SensorOrigin.pos : SensorOrigin → Nat
  | .internal => 0 | .external => 1

def SensorState.pos : SensorState → Nat
  | .valid => 0 | .suspect => 1 | .lost => 2

def Source.pos : Source → Nat
  | .service => 0 | .driver => 1 | .fleet => 2 | .depot => 3 | .doorway => 4 | .screen => 5 | .base => 6

def Kind.pos : Kind → Nat
  | .hold => 0 | .offset => 1 | .floor => 2 | .cap => 3 | .vent => 4 | .screen => 5

def Lifetime.pos : Lifetime → Nat
  | .standing => 0 | .countdown => 1 | .tail => 2 | .pulse => 3

def OrderState.pos : OrderState → Nat
  | .waiting => 0 | .inForce => 1 | .tailing => 2 | .resting => 3

def Effect.pos : Effect → Nat
  | .none => 0 | .partly => 1 | .full => 2

def Activity.pos : Activity → Nat
  | .active => 0 | .inactive => 1

def RegState.pos : RegState → Nat
  | .starting => 0 | .regulating => 1 | .noSensor => 2 | .inactive => 3

def AllowanceStatus.pos : AllowanceStatus → Nat
  | .neverReceived => 0 | .current => 1 | .lapsed => 2

def BankState.pos : BankState → Nat
  | .opened => 0 | .precharge => 1 | .closed => 2 | .hold => 3 | .opening => 4 | .fault => 5 | .locked => 6

def OpeningOutcome.pos : OpeningOutcome → Nat
  | .opened => 0 | .fault => 1 | .locked => 2

def ChanState.pos : ChanState → Nat
  | .disabled => 0 | .masked => 1 | .live => 2

/-- The order record as stored, in the layout of R192. -/
def OrderRec.bytes (r : OrderRec) : List Byte :=
  let kind := wordOf r.kind.pos
  let value := wordOf r.value
  let mode := wordOf r.mode.pos
  let count := BitVec.ofNat 16 r.count
  let onTime := BitVec.ofNat 16 r.onTime
  let flags := (if r.sense = .unlessTrue then 1#8 else 0) ||| (if r.persist then 2#8 else 0)
  [kind.hi, kind.lo, r.zones, value.hi, value.lo, Word.hi r.select, Word.lo r.select, flags, mode.hi, mode.lo,
    Word.hi count, Word.lo count, Word.hi onTime, Word.lo onTime]

/-- The 26-byte reply of READ_ORDER (R192). -/
def orderReply (k : SlotId) (g : BitVec 4) (latched : Bool) (r : OrderRec) (l : OrderLive) : List Byte :=
  handleWire k g ++
    [(if latched then 1#8 else 0) ||| (if l.holds then 2#8 else 0) ||| (byteOf l.effect.pos <<< 2),
      byteOf r.source.pos] ++
    r.bytes ++
    [byteOf l.state.pos, byteOf (l.remaining / 65536), byteOf (l.remaining / 256), byteOf l.remaining,
      byteOf (l.period / 256), byteOf l.period, byteOf (l.offTime / 256), byteOf l.offTime]

end Sys2Proof.Machine
end

