-- ==== Sys2Proof/Machine/Flags.lean ====
section
/-! DEFINITION. The facts an order's condition is built from (R43, R44), the condition itself (R45), and how an order's
live fields move when its condition rises or falls (R38 to R41). -/

namespace Sys2Proof.Machine

/-- Some doorway serving a zone of `zs` is in a state that `p` accepts; states and served zones as last posted to the
Order Table (R118). -/
def CondWord.someDoor (w : CondWord) (zs : ZoneSet) (p : DoorState → Bool) : Bool :=
  (List.finRange 6).any fun d => p (Tab.get w.doorState d) && Tab.get w.doorZones d &&& zs != 0

/-- One of the sixteen conditions, judged for an order (R43). The zone-relative ones are false for a SCREEN order
(R44). -/
def condTrue (w : CondWord) (o : OrderRec) (k : Nat) : Bool :=
  match k with
  | 0 => w.moving
  | 1 => w.stopped
  | 2 => w.depot
  | 3 => w.night
  | 4 => decide (w.supply = .line)
  | 5 => decide (w.supply = .pregap ∨ w.supply = .gap)
  | 6 => decide (w.supply = .battery)
  | 7 => w.lowBat
  | 8 => o.kind.bearsZones && w.someDoor o.zones fun s => decide (s = .opened ∨ s = .tail)
  | 9 => (List.finRange 6).any fun d => decide (Tab.get w.doorState d = .opened ∨ Tab.get w.doorState d = .held)
  | 10 => o.kind.bearsZones && w.someDoor o.zones fun s => decide (s = .held)
  | 11 =>
    let s := Tab.get w.doorState 0
    decide (s = .opened ∨ s = .held ∨ s = .tail)
  | 12 => decide (w.tOut < w.frost)
  | 13 =>
    decide (w.watch = .risk ∨ w.watch = .fog ∨ w.watch = .ice ∨ (w.watch = .unknown ∧ w.tOut < Config.fogUnknownTo))
  | 14 => decide (w.warm < w.tOut)
  | 15 => o.kind.bearsZones && (zonesOf o.zones).any fun z => !Tab.get w.airValid z
  | _ => false

/-- Some selected condition is true. -/
def someSelected (w : CondWord) (o : OrderRec) : Bool :=
  (List.range 16).any fun k => o.select.getLsbD k && condTrue w o k

/-- Whether an order's condition holds (R45). -/
def conditionHolds (w : CondWord) (o : OrderRec) : Bool :=
  match o.sense with
  | .whenTrue => decide (o.select = 0) || someSelected w o
  | .unlessTrue => !someSelected w o

/-- The off-time a period takes from the stored count and on-time (R41). -/
def OrderRec.offTime (o : OrderRec) : Nat := if o.onTime = 0 then o.count / 2 else o.count - o.onTime

/-- The start of a PULSE period (R41). -/
def startPeriod (o : OrderRec) (l : OrderLive) : OrderLive :=
  { l with state := .inForce, remaining := o.count, period := o.count, offTime := o.offTime }

/-- The condition rises (R38 to R41). -/
def rise (o : OrderRec) (l : OrderLive) : OrderLive :=
  match o.mode with
  | .standing | .countdown | .tail => { l with state := .inForce }
  | .pulse => startPeriod o l

/-- The condition falls (R38 to R41). -/
def fall (o : OrderRec) (l : OrderLive) : OrderLive :=
  match o.mode with
  | .standing | .countdown | .pulse => { l with state := .waiting }
  | .tail => if l.state = .inForce then { l with state := .tailing, remaining := o.count } else l

/-- An order's live fields after its condition is evaluated: a changed value makes the lifetime's transition (R45). -/
def evaluate (w : CondWord) (o : OrderRec) (l : OrderLive) : OrderLive :=
  let h := conditionHolds w o
  if h = l.holds then l
  else if h then rise o { l with holds := h } else fall o { l with holds := h }

/-- The live fields of a newly placed order (R29): the latch clear, effect NONE, the condition evaluated. -/
def placedLive (w : CondWord) (o : OrderRec) : OrderLive :=
  let h := conditionHolds w o
  { state := if h then .inForce else .waiting
    remaining := o.count
    period := if o.mode = .pulse then o.count else 0
    offTime := if o.mode = .pulse then o.offTime else 0
    holds := h
    effect := .none }

/-- Whether the state counts at a boundary of the time base (R37). -/
def counts (o : OrderRec) (l : OrderLive) : Bool :=
  match o.mode, l.state with
  | .countdown, .inForce => true
  | .tail, .tailing => true
  | .pulse, .inForce | .pulse, .resting => true
  | _, _ => false

/-- Whether an order takes part in resolution (R52). -/
def takesPart (l : OrderLive) : Bool := decide (l.state = .inForce ∨ l.state = .tailing)

end Sys2Proof.Machine
end

