-- ==== Sys2Proof/Machine/Orders.lean ====
section
/-! DEFINITION. The Order Table: resolution (chapter 03), retirement, the commands on orders, lifetimes and the
table's own events (chapter 02). -/

namespace Sys2Proof.Machine

/-! ### Resolution (R52 to R63) -/

/-- The orders that take part in resolution, lowest slot first (R52). -/
def inForceOrders (slots : Vector Slot 64) : List (SlotId × OrderRec) :=
  (List.finRange 64).filterMap fun k =>
    match (Tab.get slots k).entry with
    | none => none
    | some e => if takesPart e.live then some (k, e.ord) else none

/-- The orders of one kind that take part in zone z. -/
def inZone (l : List (SlotId × OrderRec)) (kind : Kind) (z : ZoneId) : List (SlotId × OrderRec) :=
  l.filter fun x => decide (x.2.kind = kind) && hasZone x.2.zones z

/-- The rank of a source (R52); the part's own sources are not ranked and come last. -/
def Source.rank : Source → Nat
  | .service => 0
  | .driver => 1
  | .fleet => 2
  | .depot => 3
  | .doorway | .screen | .base => 4

/-- The winner by rank, a tie going to the earlier of the list, which is the lower slot (R53, R57). -/
def winner : List (SlotId × OrderRec) → Option (SlotId × OrderRec)
  | [] => none
  | x :: xs =>
    match winner xs with
    | none => some x
    | some y => if y.2.source.rank < x.2.source.rank then some y else some x

/-- The hold result and origin of zone z (R53). -/
def holdOf (l : List (SlotId × OrderRec)) (mode : Mode) (r : ZoneRec) (z : ZoneId) : HoldResult × HoldOrigin :=
  match winner (inZone l .hold z) with
  | some (k, o) => (if o.value = 0 then .off else .setpoint o.value, .slot k)
  | none =>
    match mode with
    | .run => (.setpoint r.setpoint, .default)
    | .park => (.off, .parked)

/-- The offset of zone z (R54). -/
def offsetOf (l : List (SlotId × OrderRec)) (z : ZoneId) : Int :=
  clamp (-80) 80 ((inZone l .offset z).foldl (fun n x => n + x.2.value) 0)

/-- The floor of zone z; a greatest value of 0 is no floor (R55). -/
def floorOf (l : List (SlotId × OrderRec)) (z : ZoneId) : Option Int :=
  let f := (inZone l .floor z).foldl (fun n x => max n x.2.value) 0
  if f = 0 then none else some f

/-- The cap of zone z (R56). -/
def capOf (l : List (SlotId × OrderRec)) (z : ZoneId) : Nat :=
  (inZone l .cap z).foldl (fun n x => min n x.2.value.toNat) 100

/-- The fan order and origin of zone z (R57). -/
def fanOf (l : List (SlotId × OrderRec)) (z : ZoneId) : Nat × Option SlotId :=
  match winner (inZone l .vent z) with
  | some (k, o) => (o.value.toNat, some k)
  | none => (0, none)

/-- The effective setpoint, none where the zone is INACTIVE (R59). -/
def setpointOf (h : HoldResult) (offset : Int) (floor : Option Int) (r : ZoneRec) : Option Int :=
  match h with
  | .off => floor
  | .setpoint t => some (max (clamp r.bandMin r.bandMax (t + offset)) (floor.getD 0))

/-- The target record of zone z from the orders in force, the mode and the zone record (R53 to R59). -/
def resolvedTarget (l : List (SlotId × OrderRec)) (mode : Mode) (r : ZoneRec) (z : ZoneId) : Target :=
  let h := holdOf l mode r z
  let floor := floorOf l z
  let ts := setpointOf h.1 (offsetOf l z) floor r
  { activity := if ts.isSome then .active else .inactive
    ts := ts
    hold := h.1
    holdOrigin := h.2
    offset := offsetOf l z
    floor := floor
    cap := capOf l z
    fanOrder := (fanOf l z).1
    fanOrigin := (fanOf l z).2 }

/-- The screen level (R58). -/
def resolvedLevel (l : List (SlotId × OrderRec)) : Nat :=
  (l.filter fun x => decide (x.2.kind = .screen)).foldl (fun n x => max n x.2.value.toNat) 0

/-- Whether an order wins a zone: for HOLD and VENT by the zone's origin, for CAP by being the least cap (R60, R61). -/
def winsZone (t : Target) (k : SlotId) (o : OrderRec) : Bool :=
  match o.kind with
  | .hold => decide (t.holdOrigin = .slot k)
  | .vent => decide (t.fanOrigin = some k)
  | .cap => decide (t.cap = o.value.toNat)
  | .offset | .floor | .screen => true

/-- The effect of an order (R23, R60 to R62). -/
def effectOf (targets : Vector Target 8) (level : Nat) (k : SlotId) (o : OrderRec) (l : OrderLive) : Effect :=
  if takesPart l then
    if o.kind = .screen then if o.value.toNat = level then .full else .none
    else if (zonesOf o.zones).all fun z => winsZone (Tab.get targets z) k o then .full
    else if (zonesOf o.zones).any fun z => winsZone (Tab.get targets z) k o then .partly
    else .none
  else .none

/-- The order's effect is recomputed when a zone of its set, or for a SCREEN order the screen level, is resolved
(R63). -/
def reachedBy (zs : ZoneSet) (scr : Bool) (o : OrderRec) : Bool :=
  if o.kind = .screen then scr else o.zones &&& zs != 0

/-- The Order Table with the zones of `zs`, and with `scr` the screen level, resolved (R63). -/
def OrderTable.resolved (t : OrderTable) (recs : Vector ZoneRec 8) (zs : ZoneSet) (scr : Bool) : OrderTable :=
  let l := inForceOrders t.slots
  let targets := Tab.build fun z =>
    if hasZone zs z then resolvedTarget l t.mode (Tab.get recs z) z else Tab.get t.targets z
  let level := if scr then resolvedLevel l else t.level
  { t with
    targets := targets
    level := level
    slots := Tab.build fun k =>
      let x := Tab.get t.slots k
      match x.entry with
      | none => x
      | some e =>
        if reachedBy zs scr e.ord then
          { x with entry := some { e with live := { e.live with effect := effectOf targets level k e.ord e.live } } }
        else x }

/-- What a changed target of zone z posts: to the zone a change to INACTIVE (R101) and a lowered cap (R102), to the
Doorway Monitor a changed activity or Ts (R115). -/
def targetPostings (z : ZoneId) (old new : Target) : List Instr :=
  (if old.activity = .active ∧ new.activity = .inactive then [.zoneInactivePosting z] else []) ++
    (if new.cap < old.cap then [.capLowered z new.cap] else []) ++
    (if old.activity = new.activity ∧ old.ts = new.ts then [] else [.zoneTargetPosting z new.ts])

/-- Resolution of the zones of `zs` and, with `scr`, of the screen level, with the postings it makes (R63, R64). -/
def State.resolve (s : State) (zs : ZoneSet) (scr : Bool) : State :=
  let t := s.orders.resolved s.cfg.zones zs scr
  { s with
    orders := t
    posts := s.posts ++
      ((zonesOf zs).flatMap fun z => targetPostings z (Tab.get s.orders.targets z) (Tab.get t.targets z)) ++
      (if t.level = s.orders.level then [] else [.screenLevelPosting t.level]) }

/-- Resolve what an order covers: its zones, or the screen level for a SCREEN order (R63). -/
def State.resolveOrder (s : State) (o : OrderRec) : State := s.resolve o.zones (decide (o.kind = .screen))

/-! ### Placing, amending and retiring -/

/-- Put an order into a slot as a placement does; the slot's generation stays as it stands (R29, R46). -/
def State.putOrder (s : State) (k : SlotId) (o : OrderRec) : State :=
  s.setSlot k { s.slot k with entry := some { ord := o, live := placedLive s.orders.cond o, latch := none } }

/-- Free a slot and advance its generation, without resolution (R21, R32). -/
def Slot.retired (x : Slot) : Slot := { gen := x.gen + 1, entry := none }

/-- Retire the order in a slot: the slot is freed, its generation advances, and what the order covered is resolved
without it (R32). A free slot has no order to retire. -/
def State.retireOrder (s : State) (k : SlotId) : State :=
  match (s.slot k).entry with
  | none => s
  | some e => (s.setSlot k (s.slot k).retired).resolveOrder e.ord

/-- Add a slot to the retired-by-part set (R36). -/
def State.joinRetired (s : State) (k : SlotId) : State :=
  { s with orders := { s.orders with retired := s.orders.retired ||| (1#64 <<< k.val) } }

/-- Change the entry of a slot in use. -/
def State.changeEntry (s : State) (k : SlotId) (f : Entry → Entry) : State :=
  match (s.slot k).entry with
  | none => s
  | some e => s.setSlot k { s.slot k with entry := some (f e) }

/-- The part amends the value of an order of its own, and resolves it (R6, R16). -/
def State.amendValue (s : State) (k : SlotId) (v : Int) : State :=
  let t := s.changeEntry k fun e => { e with ord := { e.ord with value := v } }
  match (t.slot k).entry with
  | none => t
  | some e => t.resolveOrder e.ord

/-- The lowest-numbered free slot among 0 to 55 (R29). -/
def State.freeSlot (s : State) : Option SlotId :=
  (List.finRange 64).find? fun k => decide (k.val < 56) && (s.slot k).entry.isNone

/-- The entry a handle names: in use, with the handle's generation (R21). -/
def State.named (s : State) (k : SlotId) (g : BitVec 4) : Option Entry :=
  if (s.slot k).gen = g then (s.slot k).entry else none

/-! ### Commands on orders -/

/-- PLACE's checks and effect (R29). -/
def State.place (s : State) (o : Origin) (w : OrderWords) : Answer :=
  match orderOf o w with
  | none => s.refuse .badField
  | some r =>
    if placeAllowed s.cfg.limits o r then
      if r.structureOk then
        match s.freeSlot with
        | none => s.refuse .full
        | some k =>
          let r' := adjustPlaced s.cfg.limits o r
          { state := (s.putOrder k r').resolveOrder r'
            status := doneOr (decide (r' ≠ r))
            payload := handleWire k (s.slot k).gen }
      else s.refuse .badField
    else s.refuse .denied

/-- PLACE (R29). -/
def execPlace (h : Header) (w : OrderWords) (s : State) : Host.Outcome State Fault Refusal :=
  .next (s.frame 0x10 h w.bytes anyOrigin fun s => s.place h.origin w)

/-- The slots AMEND and RETIRE do not reach: 56 to 62, and 63 but for an AMEND from SERVICE (R26). -/
def amendBarred (o : Origin) (k : SlotId) : Bool :=
  decide (56 ≤ k.val ∧ k.val ≤ 62) || (decide (k.val = 63) && decide (o ≠ .service))

/-- What an AMEND payload asks of a stored order: its value clamped (R24, R27), its condition select, sense, count and
on-time; of slot 63, the value alone (R28, R30). -/
def amendedRec (l : LimitsRec) (o : Origin) (k : SlotId) (stored r : OrderRec) : OrderRec :=
  let v := clampFor l o r.kind r.value
  if k = baseSlot then { stored with value := v }
  else
    { stored with
      value := v
      select := r.select
      sense := r.sense
      count := r.count
      onTime := adjustOnTime r }

/-- Whether the AMEND was adjusted: its value clamped, or its on-time forced to 0 where it is used (R30). -/
def amendAdjusted (l : LimitsRec) (o : Origin) (k : SlotId) (r : OrderRec) : Bool :=
  decide (clampFor l o r.kind r.value ≠ r.value) || (decide (k ≠ baseSlot) && decide (adjustOnTime r ≠ r.onTime))

/-- The live fields after an AMEND: a COUNTDOWN's remaining becomes the new count at once, and the condition is evaluated
with the new select and sense (R31). So a partly counted COUNTDOWN starts again when the stored values are carried, where
R30 has the order left as it was (assumption 33). -/
def amendedLive (w : CondWord) (r : OrderRec) (l : OrderLive) : OrderLive :=
  evaluate w r (if r.mode = .countdown then { l with remaining := r.count } else l)

/-- AMEND's checks and effect (R30, R31). The zone set carried is not looked at, as R30 says; R25 has an empty one refused
for a kind that bears zones (assumption 40). -/
def State.amend (s : State) (o : Origin) (hb : HandleBytes) (w : OrderWords) : Answer :=
  match handleOf hb with
  | none => s.refuse .badField
  | some (k, g) =>
    if amendBarred o k then s.refuse .denied
    else
      match s.named k g with
      | none => s.refuse .stale
      | some e =>
        if mayAmend o e.ord.source || decide (k = baseSlot) then
          match orderOf o w with
          | none => s.refuse .badField
          | some r =>
            if r.kind = e.ord.kind ∧ r.mode = e.ord.mode ∧ r.pulseOk then
              let r' := amendedRec s.cfg.limits o k e.ord r
              let e' := { e with ord := r', live := amendedLive s.orders.cond r' e.live }
              { state := (s.setSlot k { s.slot k with entry := some e' }).resolveOrder r'
                status := doneOr (amendAdjusted s.cfg.limits o k r)
                payload := handleWire k g }
            else s.refuse .badField
        else s.refuse .denied

/-- AMEND (R30, R31). -/
def execAmend (h : Header) (k : HandleBytes) (w : OrderWords) (s : State) : Host.Outcome State Fault Refusal :=
  .next (s.frame 0x11 h (k.bytes ++ w.bytes) anyOrigin fun s => s.amend h.origin k w)

/-- RETIRE's checks and effect (R33). -/
def State.retire (s : State) (o : Origin) (hb : HandleBytes) : Answer :=
  match handleOf hb with
  | none => s.refuse .badField
  | some (k, g) =>
    if 56 ≤ k.val then s.refuse .denied
    else
      match s.named k g with
      | none => s.refuse .stale
      | some e =>
        if mayAmend o e.ord.source then
          { state := s.retireOrder k, status := .done, payload := handleWire k g }
        else s.refuse .denied

/-- RETIRE (R33). -/
def execRetire (h : Header) (k : HandleBytes) (s : State) : Host.Outcome State Fault Refusal :=
  .next (s.frame 0x12 h k.bytes anyOrigin fun s => s.retire h.origin k)

/-- LATCH's checks and effect (R34). -/
def State.latch (s : State) (hb : HandleBytes) : Answer :=
  match handleOf hb with
  | none => s.refuse .badField
  | some (k, g) =>
    match s.named k g with
    | none => s.refuse .stale
    | some e =>
      match e.latch with
      | some _ => s.refuse .held
      | none =>
        { state := s.setSlot k { s.slot k with entry := some { e with latch := some (e.ord, e.live) } }
          status := .done
          payload := handleWire k g }

/-- LATCH (R34). -/
def execLatch (h : Header) (k : HandleBytes) (s : State) : Host.Outcome State Fault Refusal :=
  .next (s.frame 0x13 h k.bytes anyOrigin fun s => s.latch k)

/-- READ_ORDER's checks and effect (R35). -/
def State.readOrder (s : State) (hb : HandleBytes) : Answer :=
  match handleOf hb with
  | none => s.refuse .badField
  | some (k, g) =>
    match s.named k g with
    | none => s.refuse .stale
    | some e =>
      match e.latch with
      | some (r, l) =>
        { state := s.setSlot k { s.slot k with entry := some { e with latch := none } }
          status := .done
          payload := orderReply k g true r l }
      | none => { state := s, status := .done, payload := orderReply k g false e.ord e.live }

/-- READ_ORDER (R35). -/
def execReadOrder (h : Header) (k : HandleBytes) (s : State) : Host.Outcome State Fault Refusal :=
  .next (s.frame 0x14 h k.bytes anyOrigin fun s => s.readOrder k)

/-- The set of slots in use (R36). -/
def State.inUse (s : State) : BitVec 64 :=
  (List.finRange 64).foldl (fun x k => if (s.slot k).entry.isSome then x ||| (1#64 <<< k.val) else x) 0

/-- LIST_ORDERS' effect (R36). -/
def State.listOrders (s : State) : Answer :=
  { state := { s with orders := { s.orders with retired := 0 } }
    status := .done
    payload := slotSetBytes s.inUse ++ slotSetBytes s.orders.retired }

/-- LIST_ORDERS (R36). -/
def execListOrders (h : Header) (s : State) : Host.Outcome State Fault Refusal :=
  .next (s.frame 0x15 h [] anyOrigin fun s => s.listOrders)

/-! ### Changing many slots at once

An event that touches several orders resolves once, after all of them have been changed (R63). -/

/-- The orders in use that `p` accepts, with their slots, lowest slot first. -/
def State.ordersWhere (s : State) (p : SlotId → Entry → Bool) : List (SlotId × OrderRec) :=
  (List.finRange 64).filterMap fun k =>
    match (s.slot k).entry with
    | none => none
    | some e => if p k e then some (k, e.ord) else none

/-- The set of the slots listed. -/
def slotSet (l : List (SlotId × OrderRec)) : BitVec 64 := l.foldl (fun x y => x ||| (1#64 <<< y.1.val)) 0

/-- Change the slots in use that `p` accepts, without resolution. -/
def State.mapSlots (s : State) (f : Slot → Slot) (p : SlotId → Entry → Bool) : State :=
  { s with orders := { s.orders with slots := Tab.build fun k =>
    match (s.slot k).entry with
    | none => s.slot k
    | some e => if p k e then f (s.slot k) else s.slot k } }

/-- The zones the listed orders cover. -/
def coveredZones (l : List (SlotId × OrderRec)) : ZoneSet := l.foldl (fun zs x => zs ||| x.2.zones) 0

/-- Some listed order is of kind SCREEN. -/
def coversScreen (l : List (SlotId × OrderRec)) : Bool := l.any fun x => decide (x.2.kind = .screen)

/-- Resolve once what the listed orders cover (R63). -/
def State.resolveMany (s : State) (l : List (SlotId × OrderRec)) : State :=
  s.resolve (coveredZones l) (coversScreen l)

/-! ### The condition word (R45) -/

/-- The condition word with one input replaced. -/
def CondWord.store (w : CondWord) : CondInput → CondWord
  | .vehicle m st d n => { w with moving := m, stopped := st, depot := d, night := n }
  | .supply x => { w with supply := x }
  | .batteryLow b => { w with lowBat := b }
  | .doorway d x zs =>
    { w with doorState := Tab.put w.doorState d x, doorZones := Tab.put w.doorZones d zs }
  | .outside t stale => { w with tOut := t, stale := stale }
  | .thresholds f wm => { w with frost := f, warm := wm }
  | .airValidity z v => { w with airValid := Tab.put w.airValid z v }

/-- A slot with its order's condition evaluated. -/
def Slot.evaluated (w : CondWord) (x : Slot) : Slot :=
  match x.entry with
  | none => x
  | some e => { x with entry := some { e with live := evaluate w e.ord e.live } }

/-- The order's condition value differs from the one it holds. -/
def condChanges (w : CondWord) (_ : SlotId) (e : Entry) : Bool := conditionHolds w e.ord != e.live.holds

/-- Evaluate every order's condition against the condition word as it stands, make the transitions of those whose value
changes, and resolve once what those orders cover, with `scr` the screen level too (R45, R63). -/
def State.reevaluate (s : State) (scr : Bool) : State :=
  let l := s.ordersWhere (condChanges s.orders.cond)
  (s.mapSlots (Slot.evaluated s.orders.cond) (condChanges s.orders.cond)).resolve (coveredZones l)
    (scr || coversScreen l)

/-- The Order Table takes a new condition word. -/
def State.withCond (s : State) (w : CondWord) : State := { s with orders := { s.orders with cond := w } }

/-- CONDITION_POSTING (R45). -/
def execConditionPosting (x : CondInput) (s : State) : Host.Outcome State Fault Refusal :=
  .next ((s.withCond (s.orders.cond.store x)).reevaluate false)

/-- Store the value the watch state gives slot 62 (R47, R127). -/
def State.storeScreenValue (s : State) (v : Option Nat) : State :=
  match v with
  | none => s
  | some n => s.changeEntry screenSlot fun e => { e with ord := { e.ord with value := n } }

/-- WATCH_POSTING: the value is stored first, then the watch state is taken into the condition word and every condition
is evaluated, then resolution follows once, of the screen level too where a value was stored (R47, R63, R127). -/
def execWatchPosting (w : Watch) (v : Option Nat) (s : State) : Host.Outcome State Fault Refusal :=
  .next (((s.storeScreenValue v).withCond { s.orders.cond with watch := w }).reevaluate v.isSome)

/-! ### Lifetimes (R37 to R41) -/

/-- An order's count has run out: a TAIL goes to WAITING (R40), a PULSE starts a new period (R41). -/
def ranOut (o : OrderRec) (l : OrderLive) : OrderLive :=
  match o.mode with
  | .tail => { l with state := .waiting, remaining := 0 }
  | .pulse => startPeriod o l
  | .standing | .countdown => l

/-- One boundary's count of an order that counts: remaining falls by one, and the transition a count reaching 0 or a
PULSE's off-time calls for is made (R37, R40, R41). -/
def counted (o : OrderRec) (l : OrderLive) : OrderLive :=
  let n := l.remaining - 1
  if n = 0 then ranOut o { l with remaining := 0 }
  else if o.mode = .pulse ∧ n = l.offTime then { l with remaining := n, state := .resting }
  else { l with remaining := n }

/-- The order is retired by the part at this boundary: a counting COUNTDOWN whose remaining reaches 0 (R39). -/
def expiresNow (_ : SlotId) (e : Entry) : Bool :=
  counts e.ord e.live && decide (e.ord.mode = .countdown) && decide (e.live.remaining ≤ 1)

/-- The order makes a transition at this boundary: its count reaches 0, or a PULSE's reaches the off-time (R37, R41). -/
def movesNow (_ : SlotId) (e : Entry) : Bool :=
  counts e.ord e.live &&
    (decide (e.live.remaining ≤ 1) ||
      (decide (e.ord.mode = .pulse) && decide (e.live.remaining - 1 = e.live.offTime)))

/-- A slot whose order counts, after a boundary of the time base (R37, R39). -/
def Slot.boundary (x : Slot) : Slot :=
  match x.entry with
  | none => x
  | some e =>
    if e.ord.mode = .countdown ∧ e.live.remaining ≤ 1 then x.retired
    else { x with entry := some { e with live := counted e.ord e.live } }

/-- Slots retired by the part join the retired-by-part set, and ORDER_RETIRED is raised once if there are any (R36, R39,
R49). -/
def State.retiredByPart (s : State) (gone : List (SlotId × OrderRec)) : State :=
  if gone.isEmpty then s
  else
    { s with orders := { s.orders with retired := s.orders.retired ||| slotSet gone } }.raise .orderRetired

/-- A boundary of the time base: every order that counts is counted, the expired COUNTDOWN orders are retired by the
part, and what the transitions touched is resolved once (R37, R39). -/
def State.boundary (s : State) : State :=
  ((s.mapSlots Slot.boundary fun _ e => counts e.ord e.live).retiredByPart
    (s.ordersWhere expiresNow)).resolveMany (s.ordersWhere movesNow)

/-- TIME_BASE_BOUNDARY (R37): the next boundary falls one second later. -/
def execTimeBaseBoundary (s : State) : Host.Outcome State Fault Refusal :=
  let t := s.atTime s.orders.boundary
  let t := { t with orders := { t.orders with boundary := s.orders.boundary + Config.secondMs } }
  .next t.boundary

/-- COUNTDOWN_EXPIRY (R39): the COUNTDOWN order in the slot, which counts, has run out; it is retired by the part. An
order that is not such a one does not run out (assumption 3). -/
def execCountdownExpiry (k : SlotId) (s : State) : Host.Outcome State Fault Refusal :=
  match (s.slot k).entry with
  | none => .next s
  | some e =>
    if e.ord.mode = .countdown ∧ e.live.state = .inForce then
      .next (((s.joinRetired k).raise .orderRetired).retireOrder k)
    else .next s

/-- The order in a slot, if `p` accepts it, has run out; what it covers is resolved. -/
def State.runOut (s : State) (k : SlotId) (p : Entry → Bool) : State :=
  match (s.slot k).entry with
  | none => s
  | some e =>
    if p e then
      (s.setSlot k { s.slot k with entry := some { e with live := ranOut e.ord e.live } }).resolveOrder e.ord
    else s

/-- ORDER_TAIL_EXPIRY (R40). -/
def execOrderTailExpiry (k : SlotId) (s : State) : Host.Outcome State Fault Refusal :=
  .next (s.runOut k fun e => decide (e.ord.mode = .tail ∧ e.live.state = .tailing))

/-- PULSE_PERIOD_EXPIRY (R41). -/
def execPulsePeriodExpiry (k : SlotId) (s : State) : Host.Outcome State Fault Refusal :=
  .next (s.runOut k fun e => decide (e.ord.mode = .pulse) && counts e.ord e.live)

/-! ### Mode and RESTART (R49, R50, R154) -/

/-- The order is cleared by a PARK entry: in slots 0 to 55, persist no (R49). -/
def clearedByPark (k : SlotId) (e : Entry) : Bool := decide (k.val < 56) && !e.ord.persist

/-- ORDER_TABLE_PARK_CLEAR: the non-persistent orders in slots 0 to 55 are retired by the part, and all eight zones are
resolved once in PARK; a retired SCREEN order has the screen level resolved too (R49, R63). -/
def execOrderTableParkClear (s : State) : Host.Outcome State Fault Refusal :=
  let gone := s.ordersWhere clearedByPark
  let t := (s.mapSlots Slot.retired clearedByPark).retiredByPart gone
  .next ({ t with orders := { t.orders with mode := .park } }.resolve allZones (coversScreen gone))

/-- ORDER_TABLE_MODE_POSTING: a change of mode resolves all eight zones; a mode that equals the one held is no change
(R63, R154, R156). -/
def execOrderTableModePosting (m : Mode) (s : State) : Host.Outcome State Fault Refusal :=
  if s.orders.mode = m then .next s
  else .next ({ s with orders := { s.orders with mode := m } }.resolve allZones false)

/-- Discard the latched copy of a slot's order (R50). -/
def State.dropLatch (s : State) (k : SlotId) : State := s.changeEntry k fun e => { e with latch := none }

/-- The order is cleared by RESTART: in slots 0 to 55 (R50). -/
def clearedByRestart (k : SlotId) (_ : Entry) : Bool := decide (k.val < 56)

/-- ORDER_TABLE_RESTART: every order in slots 0 to 55 is retired, the retired-by-part set is emptied, slots 62 and 63
keep all but their latched copies (R50). -/
def execOrderTableRestart (s : State) : Host.Outcome State Fault Refusal :=
  let t := (s.dropLatch screenSlot).dropLatch baseSlot
  let t := { t with orders := { t.orders with retired := 0 } }
  .next ((t.mapSlots Slot.retired clearedByRestart).resolveMany (s.ordersWhere clearedByRestart))

end Sys2Proof.Machine
end

