-- ==== Sys2Proof/Machine/Sensors.lean ====
section
/-! DEFINITION. The Sensor Scanner (chapter 04): judging arrivals, the postings after each event, the converter's
passes, SENSE and the timers of a sensor channel. -/

namespace Sys2Proof.Machine

/-! ### Judging a reading (R72 to R75) -/

/-- A reading lies within the range of a role, limits included (R72). An UNUSED channel takes no arrival. -/
def Role.inRange (r : Role) (v : Int) : Bool :=
  match r with
  | .unused => false
  | .zoneAir _ | .outside | .glass => decide (-500 ≤ v ∧ v ≤ 850)
  | .surface _ | .lineUnused => decide (-500 ≤ v ∧ v ≤ 2000)
  | .cabHumidity => decide (0 ≤ v ∧ v ≤ 1000)

/-- A valid arrival: the count rises, and from the return run on the reading is taken and the channel is VALID (R73). -/
def SensorLive.valid (l : SensorLive) (run : Nat) (v : Int) : SensorLive :=
  let n := min 8 (l.count + 1)
  if l.state = .valid then { l with count := n, last := v }
  else if run ≤ n then { l with state := .valid, count := n, last := v, holdTimer := none }
  else { l with count := n }

/-- An out-of-range arrival: the count returns to 0, and a VALID channel becomes SUSPECT with its hold timer started
(R74). -/
def SensorLive.outOfRange (l : SensorLive) (hold : Timer) : SensorLive :=
  if l.state = .valid then { l with state := .suspect, count := 0, holdTimer := hold } else { l with count := 0 }

/-- An arrival at channel k: judged by the role and the return run as they stand (R72 to R74). -/
def State.judged (s : State) (k : SensorId) (v : Int) : SensorLive :=
  let r := s.sensorRec k
  if r.role.inRange v then (s.sensor k).valid r.run v else (s.sensor k).outOfRange (s.startSec r.hold)

/-! ### Derived quantities and postings (R76 to R80) -/

/-- The Screen Controller is posted to on every arrival at a channel of this role (R80). -/
def Role.watched : Role → Bool
  | .outside | .glass | .cabHumidity => true
  | .zoneAir z => decide (z = 0)
  | .unused | .lineUnused | .surface _ => false

/-- The posting of the watch's inputs as they stand (R80, R122). -/
def State.screenInputs (s : State) : Instr :=
  .screenSensorPosting (s.ta 0) s.scan.tOut s.scan.stale s.glass s.humidity

/-- The posting a channel of this role makes to the Bank Controller (R79, R80). -/
def State.surfacePostings (s : State) : Role → List Instr
  | .surface c => [.surfacePosting c (s.surfaceState c)]
  | .unused | .lineUnused | .zoneAir _ | .outside | .glass | .cabHumidity => []

/-- To and its stale flag recomputed (R77). -/
def State.withTo (s : State) : State :=
  match s.outsideReading with
  | some t => { s with scan := { s.scan with tOut := t, stale := false } }
  | none => { s with scan := { s.scan with stale := true } }

/-- The postings of one event at a channel, in the order of R80's table: `old` the state before the event, `roles` the
roles the channel had and has. To goes with its stale flag when To changes (assumption 39). Where both roles are SURFACE,
the old role's output channel is posted first (assumption 34). -/
def State.scanPostings (old s : State) (roles : List Role) : List Instr :=
  ((List.finRange 8).filterMap fun z =>
    if s.airValid z = old.airValid z then none else some (.conditionPosting (.airValidity z (s.airValid z)))) ++
  (if s.scan.tOut = old.scan.tOut then [] else [.conditionPosting (.outside s.scan.tOut s.scan.stale), .toPosting s.scan.tOut]) ++
  (if roles.any Role.watched then [s.screenInputs] else []) ++
  roles.flatMap s.surfacePostings

/-- After an event at a channel: the derived quantities recomputed and the results posted (R76 to R80). -/
def State.derived (s old : State) (roles : List Role) : State :=
  let t := s.withTo
  t.post (State.scanPostings old t roles)

/-- Channel k takes new live fields, and what it feeds is recomputed and posted. -/
def State.sensorEvent (s : State) (k : SensorId) (l : SensorLive) : State :=
  (s.setSensor k l).derived s [(s.sensorRec k).role]

/-! ### SENSE (R70) -/

/-- SENSE's checks and effect: an arrival that restarts the refresh timer (R70, R71). -/
def State.sense (s : State) (n : Byte) (v : Word) : Answer :=
  match objectOf 32 n with
  | none => s.refuse .badField
  | some k =>
    if (s.sensorRec k).origin = .external ∧ (s.sensorRec k).role ≠ .unused then
      let l := { s.judged k v.toInt with refreshTimer := s.startMs Config.refreshMs }
      { state := s.sensorEvent k l
        status := .done
        payload := bytesOfWords [wordOf l.state.pos, wordOf l.last] }
    else s.refuse .wrongState

/-- SENSE (R70). -/
def execSense (h : Header) (n : Byte) (v : Word) (s : State) : Host.Outcome State Fault Refusal :=
  .next (s.frame 0x33 h [n, v.hi, v.lo] notDriver fun s => s.sense n v)

/-! ### The converter (R68, R69) -/

/-- The channels a pass converts, the highest-numbered first (R68). -/
def State.passList (s : State) : List SensorId :=
  ((List.finRange 32).filter fun k =>
    decide ((s.sensorRec k).origin = .internal ∧ (s.sensorRec k).role ≠ .unused)).reverse

/-- A pass starts: its list is taken and the scan timer restarted with the scan interval in force (R68, R69). -/
def State.startPass (s : State) : State :=
  { s with
    scan := { s.scan with pass := s.passList, scanTimer := s.startMs s.cfg.limits.scan, recorded := false } }

/-- SCAN_EXPIRY: a pass starts, or, where one is running, the expiry is recorded (R68, R69). -/
def execScanExpiry (s : State) : Host.Outcome State Fault Refusal :=
  .next <| s.onExpiry s.scan.scanTimer fun s =>
    if s.scan.pass = [] then s.startPass
    else { s with scan := { s.scan with scanTimer := none, recorded := true } }

/-- A pass that has just converted its last channel completes; a recorded scan expiry starts the next one (R68, R69). -/
def State.passDone (s : State) : State :=
  if s.scan.pass = [] ∧ s.scan.recorded then s.startPass else s

/-- CONVERSION_ARRIVAL: the reading the converter delivers for the next channel of the running pass (R68, R73). A
channel that is not the next one to be converted gives no arrival (assumption 3). -/
def execConversionArrival (k : SensorId) (v : Int) (s : State) : Host.Outcome State Fault Refusal :=
  match s.scan.pass with
  | [] => .next s
  | k' :: rest =>
    if k' = k then
      let t := { s with
        pins := { s.pins with ain := Tab.put s.pins.ain k v }
        scan := { s.scan with pass := rest } }
      .next (t.sensorEvent k (t.judged k v)).passDone
    else .next s

/-! ### Timers of a channel (R71, R75) -/

/-- REFRESH_EXPIRY: an out-of-range arrival, and the timer restarted (R71). -/
def execRefreshExpiry (k : SensorId) (s : State) : Host.Outcome State Fault Refusal :=
  .next <| s.onExpiry (s.sensor k).refreshTimer fun s =>
    s.sensorEvent k
      { (s.sensor k).outOfRange (s.startSec (s.sensorRec k).hold) with refreshTimer := s.startMs Config.refreshMs }

/-- SENSOR_HOLD_EXPIRY: the channel becomes LOST and SENSOR_LOST is raised (R75). -/
def execSensorHoldExpiry (k : SensorId) (s : State) : Host.Outcome State Fault Refusal :=
  .next <| s.onExpiry (s.sensor k).holdTimer fun s =>
    (s.sensorEvent k { s.sensor k with state := .lost, holdTimer := none }).raise .sensorLost

/-! ### RESTART (R81) -/

/-- SENSOR_SCANNER_RESTART: the sensor table stays as it stands; the present air validities and To are posted to the
Order Table again (R81). -/
def execSensorScannerRestart (s : State) : Host.Outcome State Fault Refusal :=
  .next (s.post
    (((List.finRange 8).map fun z => .conditionPosting (.airValidity z (s.airValid z))) ++
      [.conditionPosting (.outside s.scan.tOut s.scan.stale)]))

end Sys2Proof.Machine
end

