-- ==== Sys2Proof/Machine/Zones.lean ====
section
/-! DEFINITION. The Zone Regulators (chapter 05) and the section flaps (R4, R95): the computation of a regulation
interval, grants and duties, and what a changed target does between expiries. -/

namespace Sys2Proof.Machine

/-! ### The closed-loop computation (R85 to R90) -/

/-- The error, clamped (R85). -/
def errorOf (ts ta : Int) : Int := clamp (-200) 200 (ts - ta)

/-- The proportional term (R85). -/
def proportionalOf (r : ZoneRec) (e : Int) : Int := (r.kp * e).tdiv 10

/-- The integrator's step (R86). -/
def integralStep (r : ZoneRec) (e : Int) : Int := (r.ki * e).tdiv 100

/-- The integrator after a step, on the flags as they stand (R86). -/
def Regulator.integrated (g : Regulator) (di : Int) : Int :=
  if (0 < di ∧ g.limitedHigh) ∨ (di < 0 ∧ g.limitedLow) then g.i else clamp (-1000) 1000 (g.i + di)

/-- Entry k of the heating curve (R17). -/
def curveAt (h : Vector Nat 16) (k : Nat) : Int := (h[k]?).getD 0

/-- The curve base at To (R87). -/
def curveBase (h : Vector Nat 16) (tOut : Int) : Int :=
  if tOut < -400 then curveAt h 0
  else if 350 ≤ tOut then curveAt h 15
  else
    let x := (tOut + 400).toNat
    let k := x / 50
    let f := x % 50
    curveAt h k + ((curveAt h (k + 1) - curveAt h k) * f).tdiv 50

/-- The feedforward (R88). -/
def feedforwardOf (r : ZoneRec) (h : Vector Nat 16) (tOut ts : Int) : Int :=
  clamp 0 1000 (curveBase h tOut + (r.kf * (ts - 200)).tdiv 10)

/-- The occupancy gain (R89). -/
def occupancyGain (r : ZoneRec) (persons : Nat) : Int := (persons * r.ko / 10 : Nat)

/-- The demand: the raw demand limited to full scale and to the cap's bounds (R90). -/
def demandOf (cap : Nat) (raw : Int) : Int := clamp (-(10 * cap)) (10 * cap) (clamp (-1000) 1000 raw)

/-- The raw demand limited and the flags of the interval set; the shortfall is that of the grant held against the
request last posted (R90). -/
def Regulator.limited (g : Regulator) (cap : Nat) (raw : Int) : Regulator :=
  { g with
    uRaw := raw
    u := demandOf cap raw
    limitedLow := decide (raw < -(10 * cap))
    highBound := decide (10 * cap < raw)
    shortfall := decide (g.grant < g.request) }

/-! ### Request, fan level and fresh air (R93 to R95) -/

def requestOf (u : Int) (pinst : Nat) : Nat := u.toNat * pinst / 1000

def fanLevel (order : Nat) (u : Int) : Nat := if order = 0 then 1 + u.natAbs * 6 / 1000 else order

def freshDemand (m : Nat) (u : Int) : Nat := if 0 ≤ u then m else m + (-u).toNat * (100 - m) / 1000

/-- The request, fan level and fresh-air demand of the demand as it stands, with the fan order and the minimum fresh air
the zone has read (R3, R93 to R95, R102). -/
def Regulator.outputs (g : Regulator) : Regulator :=
  { g with
    request := requestOf g.u g.pinst
    fan := fanLevel g.fanRead g.u
    fresh := freshDemand g.freshRead g.u }

/-! ### The three computations of an expiry -/

/-- What a zone reads at an expiry beside its own record (R83). -/
structure ZoneInputs where
  cfg : ZoneRec
  curve : Vector Nat 16
  tOut : Int
  persons : Nat
  cap : Nat
  fanOrder : Nat

/-- What an expiry reads and a lowered cap uses again: the fan order and the minimum fresh air (R3, R83, R102). -/
def Regulator.reads (g : Regulator) (x : ZoneInputs) : Regulator :=
  { g with fanRead := x.fanOrder, freshRead := x.cfg.minFresh }

/-- REGULATING: closed loop on the error (R85 to R95). -/
def Regulator.regulate (g : Regulator) (x : ZoneInputs) (ts ta : Int) : Regulator :=
  let e := errorOf ts ta
  let p := proportionalOf x.cfg e
  let i := g.integrated (integralStep x.cfg e)
  let f := feedforwardOf x.cfg x.curve x.tOut ts
  let o := occupancyGain x.cfg x.persons
  let g := { (g.reads x) with state := .regulating, e := some e, p := p, i := i, f := f, g := o }
  (g.limited x.cap (p + i + f + g.d - o)).outputs

/-- NO_SENSOR: open loop on the feedforward, the integrator frozen and not added (R99). -/
def Regulator.openLoop (g : Regulator) (x : ZoneInputs) (ts : Int) : Regulator :=
  let f := feedforwardOf x.cfg x.curve x.tOut ts
  let o := occupancyGain x.cfg x.persons
  let g := { (g.reads x) with state := .noSensor, e := none, p := 0, f := f, g := o }
  (g.limited x.cap (f + g.d - o)).outputs

/-- The settings of INACTIVE, with the minimum fresh air as it stands (R3, R100). -/
def Regulator.rest (g : Regulator) (minFresh : Nat) : Regulator :=
  { g with
    state := .inactive, e := none, p := 0, i := 0, f := 0, g := 0, uRaw := 0, u := 0
    limitedLow := false, highBound := false, shortfall := false
    request := 0, duty := 0, fan := 0, fresh := minFresh, freshRead := minFresh }

/-! ### Postings of a zone -/

/-- A duty posted for every convector channel of the zone (R97), by the channels' types as they stand (assumption 41). -/
def State.dutyPostings (s : State) (z : ZoneId) (duty : Nat) : List Instr :=
  (s.convectors z).map fun c => .dutyPosting c ⟨.zone z, duty⟩

/-- What a zone posts after its record changed from `old` to `new`: the request and the duty where they differ from
those last posted, the fresh-air demand where it changed, and for zone 0 the fan level and fresh-air demand (R83, R93,
R95, R100). The fan level of zones 1 to 7 is driven from the record itself. -/
def State.zonePostings (s : State) (z : ZoneId) (old new : Regulator) : List Instr :=
  (if new.request = old.request then [] else [.lineRequestPosting (.zone z) new.request]) ++
  (if new.duty = old.duty then [] else s.dutyPostings z new.duty) ++
  (if new.fresh = old.fresh then [] else [.freshAirPosting z new.fresh]) ++
  (if z = 0 then [.zone0Posting new.fan new.fresh] else [])

/-- The zone takes a new record and posts what changed. -/
def State.zoneTakes (s : State) (z : ZoneId) (new : Regulator) : State :=
  (s.setReg z new).post (s.zonePostings z (s.reg z) new)

/-- What zone z reads at an expiry (R83). -/
def State.zoneInputs (s : State) (z : ZoneId) : ZoneInputs where
  cfg := s.zoneRec z
  curve := s.cfg.curve
  tOut := s.scan.tOut
  persons := Tab.get s.link.vehicle.occupancy z
  cap := (s.target z).cap
  fanOrder := (s.target z).fanOrder

/-- The record zone z computes at an expiry: its regulation state is chosen by its activity and Ta (R83). The duty is no
part of it: a zone that leaves INACTIVE with a grant held keeps duty 0 until the next grant that differs or change of
Pinst (assumption 36). -/
def State.computed (s : State) (z : ZoneId) : Regulator :=
  match (s.target z).activity, (s.target z).ts with
  | .active, some ts =>
    match s.ta z with
    | some ta => (s.reg z).regulate (s.zoneInputs z) ts ta
    | none => (s.reg z).openLoop (s.zoneInputs z) ts
  | .active, none | .inactive, _ => (s.reg z).rest (s.zoneRec z).minFresh

/-- INTERVAL_EXPIRY (R83): the timer restarts with the interval as it stands, the zone computes, and it posts. -/
def execIntervalExpiry (z : ZoneId) (s : State) : Host.Outcome State Fault Refusal :=
  .next <| s.onExpiry (s.reg z).timer fun s =>
    s.zoneTakes z { s.computed z with timer := s.startSec (s.zoneRec z).interval }

/-! ### Grants and duty (R96 to R98) -/

/-- The duty of the grant held and the current Pinst; 0 in INACTIVE (R97, R100). -/
def Regulator.dutyNow (g : Regulator) : Nat := if g.state = .inactive then 0 else dutyOf g.grant g.pinst

/-- ZONE_GRANT: a grant that differs from the one held sets the shortfall and the duty, which is posted (R96). -/
def execZoneGrant (z : ZoneId) (g : Nat) (s : State) : Host.Outcome State Fault Refusal :=
  let r := s.reg z
  if g = r.grant then .next s
  else
    let r := { r with grant := g, shortfall := decide (g < r.request) }
    let r := { r with duty := r.dutyNow }
    .next ((s.setReg z r).post (s.dutyPostings z r.duty))

/-- DRAFT_POSTING: the zone stores D for its next expiry (R89). -/
def execDraftPosting (z : ZoneId) (d : Nat) (s : State) : Host.Outcome State Fault Refusal :=
  .next (s.setReg z { s.reg z with d := d })

/-- PINST_POSTING: Pinst is recomputed from the channels as they stand, and the duty from it, posted if it differs (R92,
R98). -/
def execPinstPosting (z : ZoneId) (s : State) : Host.Outcome State Fault Refusal :=
  let r := { s.reg z with pinst := s.pinstNow z }
  let r' := { r with duty := r.dutyNow }
  .next ((s.setReg z r').post (if r'.duty = r.duty then [] else s.dutyPostings z r'.duty))

/-! ### Changes of target between expiries (R101, R102) -/

/-- The record after a lowered cap: the demand clamped to the new bounds, its flag set, and what follows from the demand
recomputed; unchanged where the demand is within them (R102). -/
def Regulator.capped (g : Regulator) (cap : Nat) : Regulator :=
  if 10 * (cap : Int) < g.u then { g with u := 10 * cap, highBound := true }.outputs
  else if g.u < -(10 * cap) then { g with u := -(10 * cap), limitedLow := true }.outputs
  else g

/-- CAP_LOWERED (R102). A minimum fresh air that has changed since the last expiry is not used before the next one
(R3). -/
def execCapLowered (z : ZoneId) (c : Nat) (s : State) : Host.Outcome State Fault Refusal :=
  let u := (s.reg z).u
  if -(10 * (c : Int)) ≤ u ∧ u ≤ 10 * c then .next s
  else .next (s.zoneTakes z ((s.reg z).capped c))

/-- ZONE_INACTIVE_POSTING: every setting of INACTIVE at once; the interval timer keeps running (R101). -/
def execZoneInactivePosting (z : ZoneId) (s : State) : Host.Outcome State Fault Refusal :=
  .next (s.zoneTakes z ((s.reg z).rest (s.zoneRec z).minFresh))

/-! ### The section flaps (R4, R95) -/

/-- The flap of a section set to the greatest demand among its members (R4). -/
def State.setFlap (s : State) (x : Section) : State :=
  match x with
  | .a => { s with flaps := { s.flaps with posA := s.flapOf .a } }
  | .b => { s with flaps := { s.flaps with posB := s.flapOf .b } }
  | .c => { s with flaps := { s.flaps with posC := s.flapOf .c } }

/-- FRESH_AIR_POSTING: the zone's section flap takes the demand and is recomputed (R95). -/
def execFreshAirPosting (z : ZoneId) (v : Nat) (s : State) : Host.Outcome State Fault Refusal :=
  .next ({ s with flaps := { s.flaps with demand := Tab.put s.flaps.demand z v } }.setFlap (s.zoneRec z).sect)

/-! ### RESTART (R103) -/

/-- The regulator record after RESTART: as at power-on, but for Pinst and D, which are kept, the minimum fresh air, and
the restarted timer (R103). -/
def Regulator.restarted (g : Regulator) (minFresh : Nat) (timer : Timer) : Regulator :=
  { Regulator.reset with d := g.d, pinst := g.pinst, fresh := minFresh, timer := timer, freshRead := minFresh }

/-- ZONE_REGULATOR_RESTART (R103). -/
def execZoneRegulatorRestart (z : ZoneId) (s : State) : Host.Outcome State Fault Refusal :=
  let old := s.reg z
  let new := old.restarted (s.zoneRec z).minFresh (s.startSec (s.zoneRec z).interval)
  .next ((s.setReg z new).post
    (s.dutyPostings z 0 ++
      (if old.request = 0 then [] else [.lineRequestPosting (.zone z) 0]) ++
      [.freshAirPosting z new.fresh] ++
      (if z = 0 then [.zone0Posting new.fan new.fresh] else [])))

end Sys2Proof.Machine
end

