-- ==== Sys2Proof/Machine/Doorways.lean ====
section
/-! DEFINITION. The Doorway Monitor (chapter 06): debounce, the doorway states, the cap order, draft terms and
curtains. -/

namespace Sys2Proof.Machine

/-! ### The cap order of a HELD doorway (R46) -/

/-- The cap order of doorway d (R46). -/
def State.capRec (s : State) (d : DoorId) : OrderRec where
  source := .doorway
  kind := .cap
  zones := (s.doorRec d).zones
  value := (s.doorRec d).cap
  select := 0
  sense := .whenTrue
  mode := .standing
  count := 1
  onTime := 0
  persist := true

/-- Place the cap order of doorway d in slot 56 + d and resolve the served zones (R46, R108). -/
def State.placeCap (s : State) (d : DoorId) : State :=
  (s.putOrder (capSlot d) (s.capRec d)).resolveOrder (s.capRec d)

/-- Retire the cap order of doorway d if the doorway is HELD (R46, R108). -/
def State.dropCap (s : State) (d : DoorId) : State :=
  if (s.door d).state = .held then s.retireOrder (capSlot d) else s

/-! ### Postings (R115, R116, R118) -/

/-- The posting of doorway d's state and served zones to the Order Table (R118). -/
def State.doorPosting (s : State) (d : DoorId) : Instr :=
  .conditionPosting (.doorway d (s.door d).state (s.doorRec d).zones)

/-- The drafts as they stand become those last posted, and each that changed is posted to its zone (R115). -/
def State.postDrafts (s : State) : State :=
  { s with
    mon := { s.mon with posted := Tab.build s.draftOf }
    posts := s.posts ++ (List.finRange 8).filterMap fun z =>
      if s.draftOf z = Tab.get s.mon.posted z then none else some (.draftPosting z (s.draftOf z)) }

/-- The curtain request of doorway d as it stands is posted to the line pool if it differs from the one last posted
(R116). -/
def State.postCurtain (s : State) (d : DoorId) : State :=
  let r := s.curtainRequest d
  if r = (s.door d).request then s
  else (s.setDoor d { s.door d with request := r }).post [.lineRequestPosting (.curtain d) r]

/-- Doorway d takes new live fields with a new state: the state is posted to the Order Table, then the drafts and the
curtain request follow it (R108, R118). -/
def State.doorMoves (s : State) (d : DoorId) (x : Door) : State :=
  let t := s.setDoor d x
  ((t.post [t.doorPosting d]).postDrafts).postCurtain d

/-! ### Debounce (R105) -/

/-- DOORWAY_INPUT_CHANGE: the debounce timer runs while the raw input differs from the accepted one (R105). A level that
equals the raw input is no change. -/
def execDoorwayInputChange (d : DoorId) (isOpen : Bool) (s : State) : Host.Outcome State Fault Refusal :=
  let x := s.door d
  if isOpen = x.raw then .next s
  else
    .next (s.setDoor d
      { x with
        raw := isOpen
        debounceTimer := if isOpen = x.accepted then none else s.startMs (s.doorRec d).debounce })

/-- The live fields of a doorway that enters OPEN (R106, R109). -/
def State.enterOpen (s : State) (d : DoorId) : Door :=
  { s.door d with
    state := .opened
    holdTimer := if (s.doorRec d).noHold then none else s.startSec (s.doorRec d).hold
    faultTimer := if s.mon.moving then s.startSec (s.doorRec d).faultDelay else none
    tailRemaining := 0
    tailTimer := none }

/-- The live fields of a doorway that enters TAIL (R107). -/
def State.enterTail (s : State) (d : DoorId) : Door :=
  { s.door d with
    state := .tail
    holdTimer := none
    faultTimer := none
    tailRemaining := (s.doorRec d).tail
    tailLength := (s.doorRec d).tail
    tailTimer := s.startMs Config.secondMs
    capHandle := none }

/-- An accepted open (R106, R109). It cannot reach an OPEN, HELD or FAULT doorway. -/
def State.acceptedOpen (s : State) (d : DoorId) : State :=
  match (s.door d).state with
  | .closed | .tail => s.doorMoves d (s.enterOpen d)
  | .opened | .held | .fault => s

/-- An accepted close: OPEN and HELD go to TAIL, FAULT to CLOSED (R107, R108, R111). It cannot reach a CLOSED or TAIL
doorway. -/
def State.acceptedClose (s : State) (d : DoorId) : State :=
  match (s.door d).state with
  | .opened | .held => (s.dropCap d).doorMoves d (s.enterTail d)
  | .fault => s.doorMoves d { s.door d with state := .closed }
  | .closed | .tail => s

/-- DEBOUNCE_EXPIRY: the accepted input takes the raw input's level (R105). -/
def execDebounceExpiry (d : DoorId) (s : State) : Host.Outcome State Fault Refusal :=
  .next <| s.onExpiry (s.door d).debounceTimer fun s =>
    let x := s.door d
    let t := s.setDoor d { x with accepted := x.raw, debounceTimer := none }
    if x.raw then t.acceptedOpen d else t.acceptedClose d

/-! ### The doorway's timers (R108 to R110) -/

/-- HOLD_EXPIRY: an OPEN doorway enters HELD: the cap order is placed, then the state, the drafts and the curtain follow
(R108). -/
def execHoldExpiry (d : DoorId) (s : State) : Host.Outcome State Fault Refusal :=
  .next <| s.onExpiry (s.door d).holdTimer fun s =>
    match (s.door d).state with
    | .opened =>
      (s.placeCap d).doorMoves d
        { s.door d with state := .held, holdTimer := none, capHandle := some (s.slot (capSlot d)).gen }
    | .closed | .tail | .held | .fault => s

/-- The tail of doorway d expires: it enters CLOSED (R109). -/
def State.tailEnds (s : State) (d : DoorId) : State :=
  s.doorMoves d { s.door d with state := .closed, tailRemaining := 0, tailTimer := none }

/-- TAIL_SECOND: tail remaining falls by one; at 0 the tail expires, else the drafts and the curtain request follow
(R109). -/
def execTailSecond (d : DoorId) (s : State) : Host.Outcome State Fault Refusal :=
  let e := (s.door d).tailTimer
  .next <| s.onExpiry e fun s =>
    let x := s.door d
    match x.state with
    | .tail =>
      if x.tailRemaining ≤ 1 then s.tailEnds d
      else
        ((s.setDoor d { x with
            tailRemaining := x.tailRemaining - 1
            tailTimer := e.map (· + Config.secondMs) }).postDrafts).postCurtain d
    | .closed | .opened | .held | .fault => s

/-- DOORWAY_TAIL_EXPIRY: the tail of a TAIL doorway has run out (R109). A doorway in another state has none (assumption
3). -/
def execDoorwayTailExpiry (d : DoorId) (s : State) : Host.Outcome State Fault Refusal :=
  match (s.door d).state with
  | .tail => .next (s.tailEnds d)
  | .closed | .opened | .held | .fault => .next s

/-- FAULT_EXPIRY: an OPEN or HELD doorway enters FAULT and DOORWAY_FAULT is raised (R110). -/
def execFaultExpiry (d : DoorId) (s : State) : Host.Outcome State Fault Refusal :=
  .next <| s.onExpiry (s.door d).faultTimer fun s =>
    match (s.door d).state with
    | .opened | .held =>
      ((s.dropCap d).raise .doorwayFault).doorMoves d
        { s.door d with state := .fault, holdTimer := none, faultTimer := none, capHandle := none }
    | .closed | .tail | .fault => s

/-- A doorway's fault timer after a change of the moving flag (R110). -/
def State.faultTimerFor (s : State) (moving : Bool) (d : DoorId) : Timer :=
  match moving, (s.door d).state with
  | true, .opened | true, .held => s.startSec (s.doorRec d).faultDelay
  | true, .closed | true, .tail | true, .fault => (s.door d).faultTimer
  | false, _ => none

/-- MOVING_FLAG_POSTING (R110): a posting that leaves the flag as it was starts and stops nothing. -/
def execMovingFlagPosting (moving : Bool) (s : State) : Host.Outcome State Fault Refusal :=
  if moving = s.mon.moving then .next s
  else
    .next { s with mon := { s.mon with
      moving := moving
      doors := Tab.build fun d => { s.door d with faultTimer := s.faultTimerFor moving d } } }

/-! ### Draft inputs (R115) -/

/-- ZONE_TARGET_POSTING (R115). -/
def execZoneTargetPosting (z : ZoneId) (ts : Option Int) (s : State) : Host.Outcome State Fault Refusal :=
  .next { s with mon := { s.mon with ts := Tab.put s.mon.ts z ts } }.postDrafts

/-- TO_POSTING (R115). -/
def execToPosting (t : Int) (s : State) : Host.Outcome State Fault Refusal :=
  .next { s with mon := { s.mon with tOut := t } }.postDrafts

/-! ### Curtains (R116, R117) -/

/-- The duty a curtain grant gives (R117), with the curtain channel as it stands (assumption 41). -/
def State.curtainDuty (s : State) (d : DoorId) (grant : Nat) : Nat :=
  match s.curtainChan d with
  | none => 0
  | some c => dutyOf grant (s.chanRec c).rated

/-- Doorway d takes a curtain grant; the duty is posted for the curtain channel when it differs (R117). -/
def State.takeCurtainGrant (s : State) (d : DoorId) (g : Nat) : State :=
  let x := s.door d
  let duty := s.curtainDuty d g
  let t := s.setDoor d { x with grant := g, duty := duty }
  match s.curtainChan d with
  | none => t
  | some c => if duty = x.duty then t else t.post [.dutyPosting c ⟨.doorway d, duty⟩]

/-- CURTAIN_GRANT (R117). -/
def execCurtainGrant (d : DoorId) (g : Nat) (s : State) : Host.Outcome State Fault Refusal :=
  .next (s.takeCurtainGrant d g)

/-- A change at doorway d's curtain channel: the request and the duty follow the channel as it stands; with no curtain
channel the grant goes to 0 with them (R116, R117). The request is posted before the duty (assumption 17). -/
def State.curtainFollows (s : State) (d : DoorId) : State :=
  (s.postCurtain d).takeCurtainGrant d (if (s.curtainChan d).isSome then (s.door d).grant else 0)

/-- CURTAIN_CHANNEL_POSTING: every doorway the posting names, in its order (R116, R178). -/
def execCurtainChannelPosting (ds : List DoorId) (s : State) : Host.Outcome State Fault Refusal :=
  .next (ds.foldl State.curtainFollows s)

/-! ### RESTART (R120) -/

/-- A doorway's live fields after RESTART (R120, steps 1, 2, 3, 6 and 7). -/
def State.doorRestarted (s : State) (d : DoorId) : Door :=
  { s.door d with
    accepted := false
    debounceTimer := if (s.door d).raw then s.startMs (s.doorRec d).debounce else none
    state := .closed
    holdTimer := none
    tailRemaining := 0
    tailTimer := none
    faultTimer := none
    request := 0
    grant := 0
    duty := 0
    capHandle := none }

/-- What doorway d posts for its curtain at RESTART: a request of 0 if the one last posted was not 0, and a duty of 0 to
the curtain channel (R120, step 6). -/
def State.curtainRestartPostings (s : State) (d : DoorId) : List Instr :=
  (if (s.door d).request = 0 then [] else [.lineRequestPosting (.curtain d) 0]) ++
    match s.curtainChan d with
    | none => []
    | some c => [.dutyPosting c ⟨.doorway d, 0⟩]

/-- DOORWAY_MONITOR_RESTART: the cap orders of HELD doorways are retired, every doorway is CLOSED and posts its state,
the drafts become 0 and the curtains follow (R120). -/
def execDoorwayMonitorRestart (s : State) : Host.Outcome State Fault Refusal :=
  let t := (List.finRange 6).foldl State.dropCap s
  let t := { t with mon := { t.mon with doors := Tab.build s.doorRestarted } }
  let t := (t.post ((List.finRange 6).map t.doorPosting)).postDrafts
  .next (t.post ((List.finRange 6).flatMap s.curtainRestartPostings))

end Sys2Proof.Machine
end

