-- ==== Sys2Proof/Machine/Screen.lean ====
section
/-! DEFINITION. The Screen Controller (chapter 07): the watch, what the screen level drives in the cab, and the glazing
heaters. -/

namespace Sys2Proof.Machine

/-! ### Evaluating the watch (R122 to R126) -/

/-- The dewpoint, absent below 500 per mille of humidity (R124). -/
def dewpointOf (tcab rh : Int) : Option Int := if 500 ≤ rh then some (tcab - (1000 - rh).tdiv 5) else none

/-- The margin (R124). -/
def marginOf (tdew : Option Int) (glass : Int) : Int :=
  match tdew with
  | some t => min 200 (glass - t)
  | none => 200

/-- The ice test (R125). -/
def iceTest (r : ScreenRec) (prev : Watch) (tOut glass : Int) : Bool :=
  if prev = .ice then !(decide (r.ice + Config.iceExitBand < glass ∨ Config.iceExitTo < tOut))
  else decide (tOut ≤ 0 ∧ glass ≤ r.ice)

/-- The margin tests (R126). -/
def marginTest (r : ScreenRec) (prev : Watch) (m : Int) : Watch :=
  match prev with
  | .fog => if m < r.fog + r.hyst then .fog else .risk
  | .risk => if m < r.fog then .fog else if m < r.risk + r.hyst then .risk else .clear
  | .clear | .ice | .unknown => if m < r.fog then .fog else if m < r.risk then .risk else .clear

/-- What an evaluation gives: the watch state, the dewpoint and the margin. -/
structure Evaluation where
  watch : Watch
  tdew : Option Int
  margin : Option Int

/-- The evaluation of the watch (R123 to R126): UNKNOWN unless complete. -/
def evaluation (r : ScreenRec) (prev : Watch) (tOut : Int) : Option Int → Option Int → Option Int → Evaluation
  | some tcab, some glass, some rh =>
    let tdew := dewpointOf tcab rh
    let m := marginOf tdew glass
    { watch := if iceTest r prev tOut glass then .ice else marginTest r prev m, tdew := tdew, margin := some m }
  | _, _, _ => { watch := .unknown, tdew := none, margin := none }

/-- The value a watch state gives slot 62 (R127). -/
def slotValue : Watch → Option Nat
  | .clear => none
  | .risk | .unknown => some 1
  | .fog | .ice => some 2

/-- The watch states whose entry raises SCREEN_RISK (R127). -/
def Watch.raises : Watch → Bool
  | .fog | .ice => true
  | .clear | .risk | .unknown => false

/-! ### What follows the screen level (R129 to R133) -/

/-- The cab blower level (R130). -/
def blowerOf (level fan0 : Nat) : Nat :=
  match level with
  | 0 => fan0
  | 1 => max fan0 5
  | _ => 7

/-- The cab flap (R131). -/
def cabFlapOf (level fresh0 : Nat) : Nat :=
  match level with
  | 0 => fresh0
  | 1 => max fresh0 60
  | _ => 100

/-- The blower, the cab direction and the cab flap follow the level and zone 0's last posting (R129 to R131). -/
def ScreenCtl.driven (c : ScreenCtl) : ScreenCtl :=
  { c with
    blower := blowerOf c.level c.fan0
    dir := decide (c.level ≠ 0)
    flap := cabFlapOf c.level c.fresh0 }

/-- The request of a glazing heater; 0 for a channel that is none (R132, R133). The channel is read as it stands, also
while a posting of its change waits (assumption 41). -/
def State.heaterRequest (s : State) (a : AuxId) : Nat :=
  match (s.chanRec (auxChan a)).type with
  | .screen =>
    match s.screen.level with
    | 0 => 0
    | 1 => s.auxHeat a * 500 / 1000
    | _ => s.auxHeat a
  | .mirror => if s.screen.level = 0 ∧ Config.mirrorTo ≤ s.screen.tOut then 0 else s.auxHeat a
  | .none | .convector _ | .curtain _ => 0

/-- The request of AUX channel a as it stands is posted if it differs from the one last posted (R132, R133). -/
def State.postHeater (s : State) (a : AuxId) : State :=
  let r := s.heaterRequest a
  if r = (s.heater a).request then s
  else (s.setHeater a { s.heater a with request := r }).post [.auxRequestPosting a r]

/-- The mirror requests as they stand, in channel order (R133). -/
def State.postMirrors (s : State) : State := s.mirrors.foldl State.postHeater s

/-- The screen heater's request as it stands (R132). -/
def State.postScreenHeater (s : State) : State :=
  match s.screenHeater with
  | none => s
  | some a => s.postHeater a

/-! ### Events -/

/-- SCREEN_SENSOR_POSTING: the four values are stored, the watch is evaluated, a changed or first state is posted to the
Order Table, an entry into FOG or ICE raises SCREEN_RISK, and the mirror requests follow To (R122, R127, R133). -/
def execScreenSensorPosting (ta0 : Option Int) (tOut : Int) (stale : Bool) (glass humidity : Option Int) (s : State) :
    Host.Outcome State Fault Refusal :=
  let e := evaluation s.cfg.screen s.screen.watch tOut ta0 glass humidity
  let changed := decide (e.watch ≠ s.screen.watch)
  let t := { s with screen := { s.screen with
    watch := e.watch, initial := false, ta0 := ta0, tOut := tOut, stale := stale, glass := glass, humidity := humidity
    tdew := e.tdew, margin := e.margin } }
  let t := if changed || s.screen.initial then t.post [.watchPosting e.watch (slotValue e.watch)] else t
  let t := if changed && Watch.raises e.watch then t.raise .screenRisk else t
  .next t.postMirrors

/-- SCREEN_LEVEL_POSTING (R129). -/
def execScreenLevelPosting (level : Nat) (s : State) : Host.Outcome State Fault Refusal :=
  .next ({ s with screen := { s.screen with level := level }.driven }.postScreenHeater).postMirrors

/-- ZONE0_POSTING: the cab blower and the cab flap follow zone 0 (R130, R131). -/
def execZone0Posting (fan fresh : Nat) (s : State) : Host.Outcome State Fault Refusal :=
  .next { s with screen := { s.screen with fan0 := fan, fresh0 := fresh }.driven }

/-- The duty a grant gives an AUX channel; 0 for a channel that is no glazing heater (R134). The channel is read as it
stands (assumption 41). -/
def State.heaterDuty (s : State) (a : AuxId) (grant : Nat) : Nat :=
  if s.isHeater a then dutyOf grant (s.chanRec (auxChan a)).rated else 0

/-- The posting of AUX channel a's duty by the Screen Controller, as the consumer of a SCREEN or of a MIRROR channel; a
channel of type NONE has no consumer and is posted nothing (R134, R176). -/
def State.auxDuty (s : State) (a : AuxId) (duty : Nat) : List Instr :=
  match (s.chanRec (auxChan a)).type with
  | .screen => [.dutyPosting (auxChan a) ⟨.screen, duty⟩]
  | .mirror => [.dutyPosting (auxChan a) ⟨.mirror, duty⟩]
  | .none | .convector _ | .curtain _ => []

/-- AUX channel a takes a grant; the duty is posted when it differs (R134). -/
def State.takeAuxGrant (s : State) (a : AuxId) (g : Nat) : State :=
  let x := s.heater a
  let duty := s.heaterDuty a g
  (s.setHeater a { x with grant := g, duty := duty }).post
    (if duty = x.duty then [] else s.auxDuty a duty)

/-- AUX_GRANT (R134). -/
def execAuxGrant (a : AuxId) (g : Nat) (s : State) : Host.Outcome State Fault Refusal := .next (s.takeAuxGrant a g)

/-- AUX_CHANNEL_POSTING: the request and the duty follow the channel as it stands (R132 to R134). The request is posted
before the duty (assumption 17). -/
def execAuxChannelPosting (a : AuxId) (s : State) : Host.Outcome State Fault Refusal :=
  .next ((s.postHeater a).takeAuxGrant a (s.heater a).grant)

/-! ### RESTART (R137) -/

/-- The requests of the glazing heaters as they stand are stored and posted, the screen heater's first (R137, step 4). -/
def State.repostHeaters (s : State) : State :=
  let l := s.screenHeater.toList ++ s.mirrors
  { s with
    screen := { s.screen with heaters := Tab.build fun a => { s.heater a with request := s.heaterRequest a } }
    posts := s.posts ++ l.map fun a => .auxRequestPosting a (s.heaterRequest a) }

/-- SCREEN_CONTROLLER_RESTART (R137). -/
def execScreenControllerRestart (s : State) : Host.Outcome State Fault Refusal :=
  let heaters := Tab.build fun a => { s.heater a with grant := 0, duty := 0 }
  let c := { s.screen with heaters := heaters, fan0 := 0, fresh0 := (s.zoneRec 0).minFresh }.driven
  .next ({ s with screen := c }.post
    (.watchPosting s.screen.watch none :: (List.finRange 4).flatMap fun a => s.auxDuty a 0)).repostHeaters

end Sys2Proof.Machine
end

