-- ==== Sys2Proof/Machine/Supply.lean ====
section
/-! DEFINITION. The Supply Monitor (chapter 08): line readings, the supply states, the two allowances, battery-low and
the operating mode. -/

namespace Sys2Proof.Machine

/-! ### A change of supply state (R140 to R145) -/

/-- The live fields with a new supply state: the gap hold timer runs in GAP, the pregap timer in PREGAP (R140 to
R143). -/
def State.withSupply (s : State) (x : SupplyState) : State :=
  { s with supply := { s.supply with
    state := x
    gapHoldTimer := if x = .gap then s.startSec s.cfg.supply.gapHold else none
    pregapTimer := if x = .pregap then s.startSec s.cfg.supply.pregap else none } }

/-- The postings of a change of supply state: to the Order Table, the Allocator and the Bank Controller's four banks
(R145). -/
def State.supplyPostings (s : State) : List Instr :=
  [.conditionPosting (.supply s.supply.state), .allocatorSupplyPosting s.supply.state s.lineAllowance] ++
    (List.finRange 4).map fun b => .bankSupplyPosting b s.supply.state

/-- A change of supply state, in one event (R145). -/
def State.setSupply (s : State) (x : SupplyState) : State :=
  let t := s.withSupply x
  (t.post t.supplyPostings).raise .supply

/-! ### Line readings and battery-low (R139, R151) -/

/-- A reading lies inside the line window, its limits included (R139). -/
def SupplyRec.inside (r : SupplyRec) (volts : Nat) : Bool := decide (r.low ≤ volts ∧ volts ≤ r.high)

/-- A line reading is judged by the supply state (R139). -/
def State.judgeLine (s : State) (volts : Nat) : State :=
  let t := { s with supply := { s.supply with lastReading := volts } }
  match s.supply.state, s.cfg.supply.inside volts with
  | .line, true | .pregap, true => t
  | .line, false | .pregap, false => t.setSupply .gap
  | .gap, true | .battery, true =>
    match s.supply.confirmTimer with
    | none => { t with supply := { t.supply with confirmTimer := t.startMs t.cfg.supply.confirm } }
    | some _ => t
  | .gap, false | .battery, false => { t with supply := { t.supply with confirmTimer := none } }

/-- A sample of BATLOW: a level that differs from the one held is taken and posted (R151). -/
def State.sampleBattery (s : State) (low : Bool) : State :=
  if low = s.supply.lowBat then s
  else
    let t := { s with supply := { s.supply with lowBat := low } }
    t.post [.conditionPosting (.batteryLow low), .auxAllowancePosting t.auxAllowance]

/-- LINE_READING: the reading every 20 ms, with the sample of BATLOW (R139, R151). The line is judged and posted before the
sample is taken (assumption 38). -/
def execLineReading (volts : Nat) (batLow : Bool) (s : State) : Host.Outcome State Fault Refusal :=
  let t := s.atTime s.supply.nextReading
  let t := { t with
    pins := { t.pins with vline := volts, batLow := batLow }
    supply := { t.supply with nextReading := s.supply.nextReading + Config.lineReadingMs } }
  .next ((t.judgeLine volts).sampleBattery batLow)

/-! ### Expiries (R139 to R143, R148) -/

/-- CONFIRMATION_EXPIRY: the return of the line is confirmed (R139, R142, R143). -/
def execConfirmationExpiry (s : State) : Host.Outcome State Fault Refusal :=
  .next <| s.onExpiry s.supply.confirmTimer fun s =>
    let t := { s with supply := { s.supply with confirmTimer := none } }
    match s.supply.state with
    | .gap | .battery => t.setSupply .line
    | .line | .pregap => t

/-- GAP_HOLD_EXPIRY (R142). -/
def execGapHoldExpiry (s : State) : Host.Outcome State Fault Refusal :=
  .next <| s.onExpiry s.supply.gapHoldTimer fun s =>
    match s.supply.state with
    | .gap => s.setSupply .battery
    | .line | .pregap | .battery => s

/-- PREGAP_EXPIRY (R141). -/
def execPregapExpiry (s : State) : Host.Outcome State Fault Refusal :=
  .next <| s.onExpiry s.supply.pregapTimer fun s =>
    match s.supply.state with
    | .pregap => s.setSupply .line
    | .line | .gap | .battery => s

/-- The line allowance in force is posted to the Allocator if it differs from that before the event (R150). -/
def State.postAllowance (s old : State) : State :=
  if s.lineAllowance = old.lineAllowance then s else s.post [.allocatorAllowancePosting s.lineAllowance]

/-- ALLOWANCE_EXPIRY: a lapse begins (R148). -/
def execAllowanceExpiry (s : State) : Host.Outcome State Fault Refusal :=
  .next <| s.onExpiry s.supply.allowanceTimer fun s =>
    let t := { s with supply := { s.supply with status := .lapsed, allowanceTimer := none } }
    (t.postAllowance s).raise .allowanceStale

/-! ### ALLOWANCE, GAP_AHEAD and MODE (R144, R147, R152) -/

/-- The received allowance is above what may be in force: above the line maximum, or in PARK the park limit (R147). -/
def State.allowanceCut (s : State) (v : Nat) : Bool :=
  decide (s.cfg.supply.lineMax < v) || (decide (s.supply.mode = .park) && decide (s.cfg.supply.parkLimit < v))

/-- ALLOWANCE's check and effect (R147). -/
def State.takeAllowance (s : State) (v : Word) : Answer :=
  if Config.maxAllowance < v.toNat then s.refuse .badField
  else
    let t := { s with supply := { s.supply with
      received := some v.toNat, status := .current, allowanceTimer := s.startSec s.cfg.supply.timeout } }
    { state := t.postAllowance s
      status := doneOr (s.allowanceCut v.toNat)
      payload := bytesOfWords [wordOf t.lineAllowance] }

/-- ALLOWANCE (R147). -/
def execAllowance (h : Header) (v : Word) (s : State) : Host.Outcome State Fault Refusal :=
  .next (s.frame 0x31 h [v.hi, v.lo] fleetOrService fun s => s.takeAllowance v)

/-- An answer that carries the supply state after the command (R144). -/
def State.supplyAnswer (s : State) (status : Status) : Answer :=
  { state := s, status := status, payload := bytesOfWords [wordOf (SupplyState.pos s.supply.state)] }

/-- GAP_AHEAD's effect in each supply state (R140 to R144). -/
def State.gapAhead (s : State) : Answer :=
  match s.supply.state with
  | .line => (s.setSupply .pregap).supplyAnswer .done
  | .pregap =>
    { s with supply := { s.supply with pregapTimer := s.startSec s.cfg.supply.pregap } }.supplyAnswer .done
  | .gap => s.supplyAnswer .done
  | .battery => s.supplyAnswer .wrongState

/-- GAP_AHEAD (R144). -/
def execGapAhead (h : Header) (s : State) : Host.Outcome State Fault Refusal :=
  .next (s.frame 0x32 h [] fleetOrService State.gapAhead)

/-- A change of mode: the Order Table is asked to clear and resolve, or to resolve, and the mode and the line allowance
in force are posted to the Allocator (R153, R154). -/
def State.enterMode (s : State) (m : Mode) : State :=
  let t := { s with supply := { s.supply with mode := m } }
  t.post
    [match m with
      | .park => .orderTableParkClear
      | .run => .orderTableModePosting .run,
      .allocatorModePosting m t.lineAllowance]

/-- The mode a MODE byte names (R152). -/
def modeOf (b : Byte) : Option Mode := if b = 0 then some .run else if b = 1 then some .park else none

/-- MODE's check and effect (R152). -/
def State.setMode (s : State) (b : Byte) : Answer :=
  match modeOf b with
  | none => s.refuse .badField
  | some m =>
    { state := if m = s.supply.mode then s else s.enterMode m
      status := .done
      payload := bytesOfWords [wordOf (Mode.pos m)] }

/-- MODE (R152). -/
def execMode (h : Header) (v : Byte) (s : State) : Host.Outcome State Fault Refusal :=
  .next (s.frame 0x34 h [v] notDriver fun s => s.setMode v)

/-! ### RESTART (R156) -/

/-- SUPPLY_MONITOR_RESTART: the mode is PARK; it, the supply state, the battery-low state and the allowances are posted
(R156). -/
def execSupplyMonitorRestart (s : State) : Host.Outcome State Fault Refusal :=
  let t := { s with supply := { s.supply with mode := .park } }
  .next (t.post
    [.orderTableModePosting .park, .conditionPosting (.supply t.supply.state),
      .conditionPosting (.batteryLow t.supply.lowBat), .allocatorModePosting .park t.lineAllowance,
      .allocatorSupplyPosting t.supply.state t.lineAllowance, .auxAllowancePosting t.auxAllowance])

end Sys2Proof.Machine
end

