-- ==== Sys2Proof/Machine/Allocator.lean ====
section
/-! DEFINITION. The Allocator (chapter 09): sharing an allowance by class, the two pools and their causes of
reallocation. -/

namespace Sys2Proof.Machine

/-! ### Sharing by class (R158 to R160) -/

/-- The effective request: the lesser of the recorded request and the available heat (R158). -/
def PoolEntry.effective (e : PoolEntry) : Nat := min e.request e.avail

/-- What a member is granted out of the amount remaining for a class with this total (R160). -/
def grantIn (remaining total effective : Nat) : Nat :=
  if total ≤ remaining then effective else share effective remaining total

/-- The amount remaining after a class with this total: what it leaves, or nothing where it does not fit (R160). -/
def remainingAfter (remaining total : Nat) : Nat := if total ≤ remaining then remaining - total else 0

/-- The sum of the effective requests of the members that `p` accepts. -/
def classTotal {n : Nat} (t : Vector PoolEntry n) (p : Fin n → Bool) : Nat :=
  ((List.finRange n).filter p).foldl (fun sum i => sum + (Tab.get t i).effective) 0

/-! ### The line pool (R159 to R161, R163) -/

/-- A zone of class 1: zone 0, and a zone whose Ta is known and whose floor is not none and above Ta (R159). -/
def State.classOne (s : State) (z : ZoneId) : Bool :=
  decide (z = 0) ||
    match s.ta z, (s.target z).floor with
    | some ta, some floor => decide (ta < floor)
    | _, _ => false

/-- The totals of the line pool's three classes (R159, R160). -/
def State.lineTotals (s : State) : Nat × Nat × Nat :=
  (classTotal s.alloc.zones s.classOne, classTotal s.alloc.curtains fun _ => true,
    classTotal s.alloc.zones fun z => !s.classOne z)

/-- The amounts remaining for the line pool's three classes (R160). -/
def State.lineRemaining (s : State) : Nat × Nat × Nat :=
  let t := s.lineTotals
  let r1 := s.alloc.lineAllowance
  let r2 := remainingAfter r1 t.1
  (r1, r2, remainingAfter r2 t.2.1)

/-- A zone's grant at a reallocation of the line pool (R160). -/
def State.zoneShare (s : State) (z : ZoneId) : Nat :=
  let e := (Tab.get s.alloc.zones z).effective
  if s.classOne z then grantIn s.lineRemaining.1 s.lineTotals.1 e
  else grantIn s.lineRemaining.2.2 s.lineTotals.2.2 e

/-- A curtain's grant at a reallocation of the line pool (R160). -/
def State.curtainShare (s : State) (d : DoorId) : Nat :=
  grantIn s.lineRemaining.2.1 s.lineTotals.2.1 (Tab.get s.alloc.curtains d).effective

/-- The line pool recomputed whole, each grant that differs posted to its member (R160, R163). -/
def State.recomputeLine (s : State) : State :=
  { s with
    alloc := { s.alloc with
      zones := Tab.build fun z => { Tab.get s.alloc.zones z with grant := s.zoneShare z }
      curtains := Tab.build fun d => { Tab.get s.alloc.curtains d with grant := s.curtainShare d } }
    posts := s.posts ++
      ((List.finRange 8).filterMap fun z =>
        if s.zoneShare z = (Tab.get s.alloc.zones z).grant then none else some (.zoneGrant z (s.zoneShare z))) ++
      (List.finRange 6).filterMap fun d =>
        if s.curtainShare d = (Tab.get s.alloc.curtains d).grant then none
        else some (.curtainGrant d (s.curtainShare d)) }

/-- A cause of reallocation of the line pool: held in PREGAP and GAP, else the whole table is recomputed (R161). -/
def State.reallocLine (s : State) : State :=
  match s.alloc.supply with
  | .line | .battery => s.recomputeLine
  | .pregap | .gap => s

/-! ### The aux pool (R157, R159, R160, R162, R163) -/

/-- AUX channel a is of class A, the SCREEN channel (R159). -/
def State.classA (s : State) (a : AuxId) : Bool := decide ((s.chanRec (auxChan a)).type = .screen)

/-- AUX channel a is of class B, a MIRROR channel (R159). -/
def State.classB (s : State) (a : AuxId) : Bool := decide ((s.chanRec (auxChan a)).type = .mirror)

/-- The totals of the aux pool's two classes (R160). -/
def State.auxTotals (s : State) : Nat × Nat := (classTotal s.alloc.aux s.classA, classTotal s.alloc.aux s.classB)

/-- The amounts remaining for the aux pool's two classes (R160). -/
def State.auxRemaining (s : State) : Nat × Nat :=
  (s.alloc.auxAllowance, remainingAfter s.alloc.auxAllowance s.auxTotals.1)

/-- An AUX channel's grant at a reallocation of the aux pool; 0 for a channel that is no member (R157, R160). -/
def State.auxShare (s : State) (a : AuxId) : Nat :=
  let e := (Tab.get s.alloc.aux a).effective
  if s.classA a then grantIn s.auxRemaining.1 s.auxTotals.1 e
  else if s.classB a then grantIn s.auxRemaining.2 s.auxTotals.2 e
  else 0

/-- The aux pool recomputed whole; it is never held (R162, R163). -/
def State.reallocAux (s : State) : State :=
  { s with
    alloc := { s.alloc with aux := Tab.build fun a => { Tab.get s.alloc.aux a with grant := s.auxShare a } }
    posts := s.posts ++ (List.finRange 4).filterMap fun a =>
      if s.auxShare a = (Tab.get s.alloc.aux a).grant then none else some (.auxGrant a (s.auxShare a)) }

/-! ### Members' entries -/

/-- The entry of a member. -/
def State.poolEntry (s : State) : PoolMember → PoolEntry
  | .line (.zone z) => Tab.get s.alloc.zones z
  | .line (.curtain d) => Tab.get s.alloc.curtains d
  | .aux a => Tab.get s.alloc.aux a

/-- A member's entry replaced. -/
def State.setPoolEntry (s : State) (m : PoolMember) (e : PoolEntry) : State :=
  match m with
  | .line (.zone z) => { s with alloc := { s.alloc with zones := Tab.put s.alloc.zones z e } }
  | .line (.curtain d) => { s with alloc := { s.alloc with curtains := Tab.put s.alloc.curtains d e } }
  | .aux a => { s with alloc := { s.alloc with aux := Tab.put s.alloc.aux a e } }

/-- A cause of reallocation of the member's pool (R161, R162). -/
def State.realloc (s : State) : PoolMember → State
  | .line _ => s.reallocLine
  | .aux _ => s.reallocAux

/-- A member's request is recorded; one that differs from the recorded request is a cause of reallocation (R158, R161,
R162). -/
def State.recordRequest (s : State) (m : PoolMember) (r : Nat) : State :=
  if r = (s.poolEntry m).request then s
  else (s.setPoolEntry m { s.poolEntry m with request := r }).realloc m

/-- A member's available heat stored, without a reallocation (R158). -/
def State.putHeat (s : State) (x : PoolMember × Nat) : State :=
  s.setPoolEntry x.1 { s.poolEntry x.1 with avail := x.2 }

/-- A member of the line pool (R157). -/
def PoolMember.isLine : PoolMember → Bool
  | .line _ => true
  | .aux _ => false

/-- A posting of available heat carries a change at a member of the line pool (`inLine`) or of the aux pool. -/
def State.heatDiffers (s : State) (l : List (PoolMember × Nat)) (inLine : Bool) : Bool :=
  l.any fun x => PoolMember.isLine x.1 == inLine && x.2 != (s.poolEntry x.1).avail

/-- The available heat of every member one posting names is recorded, and then each pool in which one differs is
reallocated once (R158, R161, R162, R178). -/
def State.recordHeats (s : State) (l : List (PoolMember × Nat)) : State :=
  let t := l.foldl State.putHeat s
  let t := if s.heatDiffers l true then t.reallocLine else t
  if s.heatDiffers l false then t.reallocAux else t

/-! ### The rows -/

/-- LINE_REQUEST_POSTING (R161). -/
def execLineRequestPosting (m : LineMember) (r : Nat) (s : State) : Host.Outcome State Fault Refusal :=
  .next (s.recordRequest (.line m) r)

/-- AUX_REQUEST_POSTING (R162). -/
def execAuxRequestPosting (a : AuxId) (r : Nat) (s : State) : Host.Outcome State Fault Refusal :=
  .next (s.recordRequest (.aux a) r)

/-- AVAILABLE_HEAT_POSTING (R158, R178). -/
def execAvailableHeatPosting (x : PoolMember × Nat) (others : List (PoolMember × Nat)) (s : State) :
    Host.Outcome State Fault Refusal :=
  .next (s.recordHeats (x :: others))

/-- ALLOCATOR_ALLOWANCE_POSTING (R161). -/
def execAllocatorAllowancePosting (allowance : Nat) (s : State) : Host.Outcome State Fault Refusal :=
  .next { s with alloc := { s.alloc with lineAllowance := allowance } }.reallocLine

/-- ALLOCATOR_SUPPLY_POSTING: the supply state and the line allowance in force with it (R145, R161). -/
def execAllocatorSupplyPosting (x : SupplyState) (allowance : Nat) (s : State) : Host.Outcome State Fault Refusal :=
  .next { s with alloc := { s.alloc with supply := x, lineAllowance := allowance } }.reallocLine

/-- ALLOCATOR_MODE_POSTING: the mode and the line allowance in force with it (R153, R161). -/
def execAllocatorModePosting (m : Mode) (allowance : Nat) (s : State) : Host.Outcome State Fault Refusal :=
  .next { s with alloc := { s.alloc with mode := m, lineAllowance := allowance } }.reallocLine

/-- AUX_ALLOWANCE_POSTING (R162). -/
def execAuxAllowancePosting (allowance : Nat) (s : State) : Host.Outcome State Fault Refusal :=
  .next { s with alloc := { s.alloc with auxAllowance := allowance } }.reallocAux

/-- An entry after RESTART: request and grant 0, the available heat kept (R180). -/
def PoolEntry.cleared (e : PoolEntry) : PoolEntry := { e with request := 0, grant := 0 }

/-- ALLOCATOR_RESTART: the reallocation that follows is caused by the Supply Monitor's postings (R156, R180). -/
def execAllocatorRestart (s : State) : Host.Outcome State Fault Refusal :=
  .next { s with alloc := { s.alloc with
    zones := Tab.build fun x => (Tab.get s.alloc.zones x).cleared
    curtains := Tab.build fun x => (Tab.get s.alloc.curtains x).cleared
    aux := Tab.build fun x => (Tab.get s.alloc.aux x).cleared } }

end Sys2Proof.Machine
end

