-- ==== Sys2Proof/Machine/Banks.lean ====
section
/-! DEFINITION. The Bank Controller (chapter 09): the contactor sequence of the banks, the output channels, and the
postings of availability. -/

namespace Sys2Proof.Machine

/-! ### Changes of availability (R178) -/

/-- A doorway's curtain channel, its rated power and availability (R116). -/
def State.curtainView (s : State) (d : DoorId) : Option (ChanId × Nat × Bool) :=
  (s.curtainChan d).map fun c => (c, (s.chanRec c).rated, s.available c)

/-- An AUX channel's type, rated power, enabled flag and availability (R132). -/
def State.auxView (s : State) (a : AuxId) : ChanType × Nat × Bool × Bool :=
  let r := s.chanRec (auxChan a)
  (r.type, r.rated, r.enabled, s.available (auxChan a))

/-- The zones whose Pinst differs from that of `old`. -/
def State.zonesChanged (s old : State) : List ZoneId :=
  (List.finRange 8).filter fun z => s.pinstNow z != old.pinstNow z

/-- The doorways whose curtain channel differs from that of `old`. -/
def State.curtainsChanged (s old : State) : List DoorId :=
  (List.finRange 6).filter fun d => s.curtainView d != old.curtainView d

/-- The members whose available heat differs from that of `old`, with the heat as it stands: the zones, the curtains and
the AUX channels, each in number order. -/
def State.heatsChanged (s old : State) : List (PoolMember × Nat) :=
  ((s.zonesChanged old).map fun z => (.line (.zone z), s.pinstNow z)) ++
  (((List.finRange 6).filter fun d => s.curtainHeat d != old.curtainHeat d).map fun d =>
    (.line (.curtain d), s.curtainHeat d)) ++
  ((List.finRange 4).filter fun a => s.auxHeat a != old.auxHeat a).map fun a => (.aux a, s.auxHeat a)

/-- One posting to a block with every change an event made, or none where it made none (R178). -/
def postOnce {α : Type} (f : α → List α → Instr) : List α → List Instr
  | [] => []
  | x :: xs => [f x xs]

/-- The postings of one event's changes of availability and rated power, in the order of R178: `old` the state before
the event. Each Zone Regulator is a block of its own; the Doorway Monitor and the Allocator are posted to once; an event
changes one AUX channel at most. -/
def State.availPostings (s old : State) : List Instr :=
  (s.zonesChanged old).map .pinstPosting ++
  postOnce (fun d ds => .curtainChannelPosting (d :: ds)) (s.curtainsChanged old) ++
  ((List.finRange 4).filter fun a => s.auxView a != old.auxView a).map .auxChannelPosting ++
  postOnce .availableHeatPosting (s.heatsChanged old)

/-- Post what the event that began at `old` changed (R178). -/
def State.postAvail (s old : State) : State := s.post (s.availPostings old)

/-! ### Entering a state (R164 to R169) -/

/-- The bank enters PRECHARGE (R165). -/
def State.enterPrecharge (s : State) (b : BankId) : State :=
  s.setBank b { s.bank b with
    state := .precharge
    prechargeTimer := s.startMs (s.bankRec b).precharge
    ocRecorded := Tab.get s.pins.oc b
    restartPending := false }

/-- An OPEN bank that is eligible in LINE enters PRECHARGE (R165). -/
def State.testEligible (s : State) (b : BankId) : State :=
  if (s.bank b).state = .opened ∧ s.hasWork b ∧ (s.bank b).supply = .line then s.enterPrecharge b else s

/-- The bank enters OPENING (R169). -/
def State.enterOpening (s : State) (b : BankId) (o : OpeningOutcome) : State :=
  s.setBank b { s.bank b with
    state := .opening, ramp := 0, prechargeTimer := none, rampTimer := none, idleTimer := none
    openingTimer := s.startMs (s.bankRec b).opening
    outcome := o }

/-- The bank enters CLOSED at ramp position 0 (R166 to R168). -/
def State.enterClosed (s : State) (b : BankId) : State :=
  s.setBank b { s.bank b with
    state := .closed, ramp := 0, prechargeTimer := none
    rampTimer := s.startMs (s.bankRec b).ramp
    idleTimer := if s.hasWork b then none else s.startSec (s.bankRec b).idle }

/-- The bank enters HOLD (R166, R167). -/
def State.enterHold (s : State) (b : BankId) : State :=
  s.setBank b { s.bank b with
    state := .hold, ramp := 0, prechargeTimer := none, rampTimer := none, idleTimer := none }

/-- The bank enters a resting state: OPEN, FAULT or LOCKED. -/
def State.enterRest (s : State) (b : BankId) (x : BankState) (faults : Nat) : State :=
  s.setBank b { s.bank b with state := x, openingTimer := none, faults := faults }

/-- The idle timer of a CLOSED bank follows its work; one already running keeps its expiry (R168). -/
def State.updateIdle (s : State) (b : BankId) : State :=
  let x := s.bank b
  match x.state with
  | .closed =>
    if s.hasWork b then s.setBank b { x with idleTimer := none }
    else
      match x.idleTimer with
      | some _ => s
      | none => s.setBank b { x with idleTimer := s.startSec (s.bankRec b).idle }
  | .opened | .precharge | .hold | .opening | .fault | .locked => s

/-! ### Channels (R10, R175, R176) -/

/-- After a duty posting to channel c: its bank tests eligibility, or its idle timer follows (R165, R168). -/
def State.afterDuty (s : State) (c : ChanId) : State :=
  match bankOf c with
  | none => s
  | some b => (s.testEligible b).updateIdle b

/-- After a change of channel c: eligibility is tested where the channel left DISABLED, and the idle timer follows (R165,
R168). -/
def State.afterChange (s old : State) (c : ChanId) : State :=
  match bankOf c with
  | none => s
  | some b => (if old.disabled c && !s.disabled c then s.testEligible b else s).updateIdle b

/-- The posted duty of channel c replaced, by the consumer that owns the channel: a posting that a former consumer made
before the channel's type, zone or doorway changed is not stored, so that the channel holds 0 until its new consumer
posts, and a channel of type NONE, which has no consumer, keeps 0 (R10, R176, assumption 14). -/
def State.storeDuty (s : State) (c : ChanId) (x : PostedDuty) : State :=
  if (s.chanRec c).type.consumer = some x.poster then s.setChan c { s.chan c with duty := x.duty } else s

/-- DUTY_POSTING (R176). -/
def execDutyPosting (c : ChanId) (x : PostedDuty) (s : State) : Host.Outcome State Fault Refusal :=
  .next ((s.storeDuty c x).afterDuty c)

/-- CHANNEL_RECONFIGURED_POSTING: the consumer of the channel posts its present duty to it (R10). -/
def execChannelReconfiguredPosting (c : ChanId) (s : State) : Host.Outcome State Fault Refusal :=
  match (s.chanRec c).type with
  | .convector z => .next (s.post [.dutyPosting c ⟨.zone z, (s.reg z).duty⟩])
  | .curtain d => .next (s.post [.dutyPosting c ⟨.doorway d, (s.door d).duty⟩])
  | .none | .screen | .mirror => .next s

/-- The overheated flag after a posting of the surface state, judged against the limit (R175). -/
def overheatedBy (limit : Int) (was : Bool) : Surface → Bool
  | .noSensor | .lost => false
  | .reading t => if limit < t then true else if t < limit - Config.overheatRelease then false else was

/-- SURFACE_POSTING (R175, R178). -/
def execSurfacePosting (c : ChanId) (x : Surface) (s : State) : Host.Outcome State Fault Refusal :=
  let t := s.setChan c { s.chan c with
    surface := x, overheated := overheatedBy (s.chanRec c).limit (s.chan c).overheated x }
  .next ((t.afterChange s c).postAvail s)

/-! ### Supply and overcurrent (R166 to R169) -/

/-- What a posting of the supply state does to a bank that has stored it (R167). -/
def State.bankFollows (s : State) (b : BankId) : State :=
  match (s.bank b).state, (s.bank b).supply with
  | .opened, _ => s.testEligible b
  | .closed, .pregap | .closed, .gap => s.enterHold b
  | .closed, .battery | .hold, .battery => s.enterOpening b .opened
  | .hold, .line => s.enterClosed b
  | .closed, .line | .hold, .pregap | .hold, .gap => s
  | .precharge, _ | .opening, _ | .fault, _ | .locked, _ => s

/-- BANK_SUPPLY_POSTING (R167). -/
def execBankSupplyPosting (b : BankId) (x : SupplyState) (s : State) : Host.Outcome State Fault Refusal :=
  .next ((s.setBank b { s.bank b with supply := x }).bankFollows b)

/-- What an assertion of OCb does (R166, R168, R169). -/
def State.tripBank (s : State) (b : BankId) : State :=
  let x := s.bank b
  match x.state with
  | .precharge => s.setBank b { x with ocRecorded := true }
  | .closed | .hold => s.enterOpening b .fault
  | .opening => s.setBank b { x with outcome := if x.outcome = .opened then .fault else x.outcome }
  | .opened | .fault | .locked => s

/-- OVERCURRENT: the level of OCb changes; an assertion is taken by the bank's state (R168). -/
def execOvercurrent (b : BankId) (asserted : Bool) (s : State) : Host.Outcome State Fault Refusal :=
  let t := { s with pins := { s.pins with oc := Tab.put s.pins.oc b asserted } }
  .next (if asserted then t.tripBank b else t)

/-! ### Completions and expiries (R166, R168 to R170) -/

/-- The link test fails: the DC link has not reached 90 % of the line (R166). -/
def linkFails (vlink line : Nat) : Bool := decide (10 * vlink < 9 * line)

/-- The completion of a precharge, by the first case that applies (R166). -/
def State.completePrecharge (s : State) (b : BankId) (vlink : Nat) : State :=
  let x := s.bank b
  let t := s.setBank b { x with lastLink := vlink }
  if x.restartPending then t.enterOpening b .opened
  else if x.ocRecorded then t.enterOpening b .fault
  else
    match x.supply with
    | .gap | .battery => t.enterOpening b .opened
    | .line => if linkFails vlink s.supply.lastReading then t.enterOpening b .fault else t.enterClosed b
    | .pregap => if linkFails vlink s.supply.lastReading then t.enterOpening b .fault else t.enterHold b

/-- PRECHARGE_COMPLETION (R166). -/
def execPrechargeCompletion (b : BankId) (vlink : Nat) (s : State) : Host.Outcome State Fault Refusal :=
  .next <| s.onExpiry (s.bank b).prechargeTimer fun s =>
    match (s.bank b).state with
    | .precharge => { s with pins := { s.pins with vlink := Tab.put s.pins.vlink b vlink } }.completePrecharge b vlink
    | .opened | .closed | .hold | .opening | .fault | .locked => s

/-- RAMP_EXPIRY: the next stagger group is admitted (R168). -/
def execRampExpiry (b : BankId) (s : State) : Host.Outcome State Fault Refusal :=
  .next <| s.onExpiry (s.bank b).rampTimer fun s =>
    let x := s.bank b
    match x.state with
    | .closed =>
      s.setBank b { x with
        ramp := min 8 (x.ramp + 1)
        rampTimer := if x.ramp + 1 < 8 then s.startMs (s.bankRec b).ramp else none }
    | .opened | .precharge | .hold | .opening | .fault | .locked => s

/-- IDLE_EXPIRY (R168). -/
def execIdleExpiry (b : BankId) (s : State) : Host.Outcome State Fault Refusal :=
  .next <| s.onExpiry (s.bank b).idleTimer fun s =>
    match (s.bank b).state with
    | .closed => s.enterOpening b .opened
    | .opened | .precharge | .hold | .opening | .fault | .locked => s

/-- The completion of an OPENING: the bank enters its outcome state; a FAULT counts, locks at the third, and raises
BANK_FAULT (R169, R170). -/
def State.completeOpening (s : State) (b : BankId) : State :=
  let x := s.bank b
  match x.outcome with
  | .opened => (s.enterRest b .opened x.faults).testEligible b
  | .fault =>
    let n := min 3 (x.faults + 1)
    ((s.enterRest b (if n = 3 then .locked else .fault) n).raise .bankFault).postAvail s
  | .locked => (s.enterRest b .locked x.faults).postAvail s

/-- OPENING_COMPLETION (R169, R170). -/
def execOpeningCompletion (b : BankId) (s : State) : Host.Outcome State Fault Refusal :=
  .next <| s.onExpiry (s.bank b).openingTimer fun s =>
    match (s.bank b).state with
    | .opening => s.completeOpening b
    | .opened | .precharge | .closed | .hold | .fault | .locked => s

/-! ### BANK_LOCK, BANK_UNLOCK and BANK_CLEAR (R171) -/

/-- The answer of a bank command that was taken: DONE with the bank's state after it (R171). -/
def State.bankAnswer (s : State) (b : BankId) : Answer :=
  { state := s, status := .done, payload := bytesOfWords [wordOf (s.bank b).state.pos] }

/-- BANK_LOCK by the bank's state (R171). -/
def State.lockBank (s : State) (b : BankId) : Answer :=
  match (s.bank b).state with
  | .opened | .fault => ((s.enterRest b .locked (s.bank b).faults).postAvail s).bankAnswer b
  | .closed | .hold => (s.enterOpening b .locked).bankAnswer b
  | .precharge | .opening => s.refuse .busy
  | .locked => s.refuse .wrongState

/-- BANK_UNLOCK by the bank's state (R171). -/
def State.unlockBank (s : State) (b : BankId) : Answer :=
  match (s.bank b).state with
  | .locked => (((s.enterRest b .opened 0).postAvail s).testEligible b).bankAnswer b
  | .opened | .precharge | .closed | .hold | .opening | .fault => s.refuse .wrongState

/-- BANK_CLEAR by the bank's state (R171). -/
def State.clearBank (s : State) (b : BankId) : Answer :=
  match (s.bank b).state with
  | .fault => (((s.enterRest b .opened (s.bank b).faults).postAvail s).testEligible b).bankAnswer b
  | .precharge | .opening => s.refuse .busy
  | .opened | .closed | .hold | .locked => s.refuse .wrongState

/-- A bank command names a bank, or is refused BAD_FIELD (R171). -/
def State.onBank (s : State) (n : Byte) (f : BankId → Answer) : Answer :=
  match objectOf 4 n with
  | none => s.refuse .badField
  | some b => f b

/-- BANK_LOCK (R171). -/
def execBankLock (h : Header) (n : Byte) (s : State) : Host.Outcome State Fault Refusal :=
  .next (s.frame 0x50 h [n] serviceOnly fun s => s.onBank n s.lockBank)

/-- BANK_UNLOCK (R171). -/
def execBankUnlock (h : Header) (n : Byte) (s : State) : Host.Outcome State Fault Refusal :=
  .next (s.frame 0x51 h [n] serviceOnly fun s => s.onBank n s.unlockBank)

/-- BANK_CLEAR (R171). -/
def execBankClear (h : Header) (n : Byte) (s : State) : Host.Outcome State Fault Refusal :=
  .next (s.frame 0x52 h [n] serviceOnly fun s => s.onBank n s.clearBank)

/-! ### RESTART (R173) -/

/-- A bank after RESTART, with `opening` the timer an OPENING would be started with (R166, R169, R173). -/
def Bank.restarted (x : Bank) (opening : Timer) : Bank :=
  match x.state with
  | .opened | .locked => { x with faults := 0 }
  | .precharge => { x with faults := 0, restartPending := true }
  | .closed | .hold =>
    { x with
      faults := 0, state := .opening, ramp := 0, prechargeTimer := none, rampTimer := none, idleTimer := none
      openingTimer := opening, outcome := .opened }
  | .opening => { x with faults := 0, outcome := if x.outcome = .fault then .opened else x.outcome }
  | .fault => { x with faults := 0, state := .opened }

/-- BANK_CONTROLLER_RESTART (R173). -/
def execBankControllerRestart (s : State) : Host.Outcome State Fault Refusal :=
  let t := { s with banks := Tab.build fun b => (s.bank b).restarted (s.startMs (s.bankRec b).opening) }
  .next (t.postAvail s)

end Sys2Proof.Machine
end

