-- ==== Sys2Proof/Machine/Link.lean ====
section
/-! DEFINITION. The commands the Link Port takes itself (chapter 10, R17 to R19): NOP, malformed frames, VEHICLE, the
heating curve, RESTART, CAUSE and MASK. -/

namespace Sys2Proof.Machine

/-! ### NOP and malformed frames (R182, R183) -/

/-- NOP: the transaction alone; the buffer is left and the read position stays where the transaction brought it
(R183). -/
def execNop (h : Header) (s : State) : Host.Outcome State Fault Refusal := .next (s.clock (transactionBytes 0x00 h []))

/-- MALFORMED_FRAME: the BAD_FRAME reply carries the code byte as received, and FRAME_ERROR is raised (R182). A transaction
with no complete byte is no frame (R181). -/
def execMalformedFrame (bytes : List Byte) (s : State) : Host.Outcome State Fault Refusal :=
  match bytes with
  | [] => .next s
  | code :: _ => .next (((s.clock bytes).reply code .badFrame []).raise .frameError)

/-! ### VEHICLE (R186) -/

/-- The posting of the four flags to the Order Table (R186). -/
def VehicleStatus.flags (v : VehicleStatus) : Instr :=
  .conditionPosting (.vehicle v.moving v.stopped v.depot v.night)

/-- The postings of the vehicle status held (R186, R187). -/
def VehicleStatus.postings (v : VehicleStatus) : List Instr := [v.flags, .movingFlagPosting v.moving]

/-- The vehicle status a payload carries, its occupancies clamped (R186, R192). -/
def vehicleOf (v : VehicleBytes) : VehicleStatus where
  moving := v.flags.getLsbD 0
  stopped := v.flags.getLsbD 1
  depot := v.flags.getLsbD 2
  night := v.flags.getLsbD 3
  occupancy := Tab.build fun z => min 250 (Tab.get v.occupancy z).toNat

/-- Some occupancy byte is above 250 (R186). -/
def VehicleBytes.clamped (v : VehicleBytes) : Bool := v.occupancy.toList.any fun b => decide (250 < b.toNat)

/-- The vehicle status in the layout of its payload (R192). -/
def VehicleStatus.bytes (v : VehicleStatus) : List Byte :=
  ((if v.moving then 1#8 else 0) ||| (if v.stopped then 2#8 else 0) ||| (if v.depot then 4#8 else 0) |||
    (if v.night then 8#8 else 0)) :: v.occupancy.toList.map byteOf

/-- VEHICLE's check and effect (R186). -/
def State.takeVehicle (s : State) (v : VehicleBytes) : Answer :=
  if v.flags &&& 0xF0#8 ≠ 0 then s.refuse .badField
  else
    let x := vehicleOf v
    { state := { s with link := { s.link with vehicle := x } }.post x.postings
      status := doneOr (VehicleBytes.clamped v)
      payload := x.bytes }

/-- VEHICLE (R186). -/
def execVehicle (h : Header) (v : VehicleBytes) (s : State) : Host.Outcome State Fault Refusal :=
  .next (s.frame 0x30 h v.bytes fleetOrService fun s => s.takeVehicle v)

/-! ### The heating curve (R17 to R19) -/

/-- CURVE_POINTER's check and effect (R18). -/
def State.pointCurve (s : State) (v : Byte) : Answer :=
  if v.toNat < 16 then
    { state := { s with link := { s.link with curvePtr := v.toNat } }, status := .done, payload := [] }
  else s.refuse .badField

/-- CURVE_POINTER (R18). -/
def execCurvePointer (h : Header) (v : Byte) (s : State) : Host.Outcome State Fault Refusal :=
  .next (s.frame 0x41 h [v] fleetOrService fun s => s.pointCurve v)

/-- The curve pointer moved on by one (R19). -/
def State.advanceCurve (s : State) : State := { s with link := { s.link with curvePtr := s.link.curvePtr + 1 } }

/-- CURVE_DATA's write form (R19). -/
def State.writeCurve (s : State) (v : Word) : Answer :=
  if h : s.link.curvePtr < 16 then
    let x := natural 0 1000 v
    { state := { s with cfg := { s.cfg with curve := s.cfg.curve.set s.link.curvePtr x.1 h } }.advanceCurve
      status := doneOr x.2
      payload := bytesOfWords [wordOf s.link.curvePtr, wordOf x.1] }
  else s.refuse .badField

/-- CURVE_DATA's read form (R19). -/
def State.readCurve (s : State) : Answer :=
  if h : s.link.curvePtr < 16 then
    { state := s.advanceCurve
      status := .done
      payload := bytesOfWords [wordOf s.link.curvePtr, wordOf (s.cfg.curve[s.link.curvePtr]'h)] }
  else s.refuse .badField

/-- CURVE_DATA, write form (R19). -/
def execCurveDataWrite (h : Header) (v : Word) (s : State) : Host.Outcome State Fault Refusal :=
  .next (s.frame 0x42 h [v.hi, v.lo] fleetOrService fun s => s.writeCurve v)

/-- CURVE_DATA, read form (R19). -/
def execCurveDataRead (h : Header) (s : State) : Host.Outcome State Fault Refusal :=
  .next (s.frame 0x42 h [] fleetOrService State.readCurve)

/-! ### RESTART (R187) -/

/-- The RESTART postings to the blocks, in the order of R187's list (assumption 17), but for the Sensor Scanner: it posts
its values again after the other blocks have taken their RESTART behaviour (R81), so its own comes last. -/
def restartPostings : List Instr :=
  [.orderTableRestart] ++ (List.finRange 8).map .zoneRegulatorRestart ++
    [.doorwayMonitorRestart, .screenControllerRestart, .supplyMonitorRestart, .allocatorRestart, .bankControllerRestart,
      .sensorScannerRestart]

/-- RESTART's effect (R187). -/
def State.restart (s : State) : Answer :=
  { state := { s with link := { s.link with causes := 0, curvePtr := 0 } }.post
      (restartPostings ++ s.link.vehicle.postings)
    status := .done
    payload := [] }

/-- RESTART (R187). -/
def execRestart (h : Header) (s : State) : Host.Outcome State Fault Refusal :=
  .next (s.frame 0x53 h [] fleetOrService State.restart)

/-! ### Attention (R189, R190) -/

/-- The lowest-numbered cause of a set (R189). -/
def lowestCause (causes : Byte) : Option Cause :=
  [.bankFault, .supply, .sensorLost, .doorwayFault, .screenRisk, .allowanceStale, .orderRetired, .frameError].find?
    fun c => causes &&& c.bit != 0

/-- CAUSE's effect (R189). -/
def State.takeCause (s : State) : Answer :=
  match lowestCause s.link.causes with
  | none => { state := s, status := .done, payload := [0, s.link.causes] }
  | some c =>
    { state := { s with link := { s.link with causes := s.link.causes &&& ~~~c.bit } }
      status := .done
      payload := [byteOf c.number, s.link.causes] }

/-- CAUSE (R189). -/
def execCause (h : Header) (s : State) : Host.Outcome State Fault Refusal :=
  .next (s.frame 0x60 h [] anyOrigin State.takeCause)

/-- MASK's effect (R190). -/
def State.setMask (s : State) (v : Byte) : Answer :=
  { state := { s with link := { s.link with mask := v } }, status := .done, payload := [v, s.link.causes] }

/-- MASK (R190). -/
def execMask (h : Header) (v : Byte) (s : State) : Host.Outcome State Fault Refusal :=
  .next (s.frame 0x61 h [v] fleetOrService fun s => s.setMask v)

end Sys2Proof.Machine
end

