-- ==== Sys2Proof/Machine/Readouts.lean ====
section
/-! DEFINITION. The readouts: READ_ZONE, READ_DOORWAY, READ_SCREEN, READ_SUPPLY, READ_BANK, READ_CHANNEL and READ_SENSOR
(R64, R67, R82, R119, R136, R155, R179, R185). Each carries one word for each field its rule names, in that order, and
changes nothing but the reply. -/

namespace Sys2Proof.Machine

/-- The answer of a readout. -/
def State.readout (s : State) (words : List Word) : Answer :=
  { state := s, status := .done, payload := bytesOfWords words }

/-- A readout of a numbered object; a number that names none is refused BAD_FIELD (R119, R179). -/
def State.readObject {n : Nat} (s : State) (b : Byte) (words : Fin n → List Word) : Answer :=
  match objectOf n b with
  | none => s.refuse .badField
  | some i => s.readout (words i)

/-! ### READ_ZONE (R51, R64, R82, R185) -/

/-- A hold result: OFF is carried as 0 (R185). -/
def HoldResult.word : HoldResult → Word
  | .off => 0
  | .setpoint t => wordOf t

/-- A hold origin: DEFAULT is carried as -1, PARKED as -2 (R185). -/
def HoldOrigin.word : HoldOrigin → Word
  | .slot k => wordOf k.val
  | .default => wordOf (-1)
  | .parked => wordOf (-2)

/-- The target record, in the order of the table of R51. -/
def Target.words (t : Target) : List Word :=
  [wordOf t.activity.pos, wordOfOpt t.ts, t.hold.word, t.holdOrigin.word, wordOf t.offset, wordOfOpt t.floor,
    wordOf t.cap, wordOf t.fanOrder, wordOfOpt (t.fanOrigin.map fun k => (k.val : Int))]

/-- The regulator record, in the order of the table of R82. -/
def State.regulatorWords (s : State) (r : Regulator) : List Word :=
  [wordOf r.state.pos, wordOfOpt r.e, wordOf r.p, wordOf r.i, wordOf r.f, wordOf r.d, wordOf r.g, wordOf r.uRaw,
    wordOf r.u, wordOfBool r.limitedLow, wordOfBool r.highBound, wordOfBool r.shortfall, wordOfBool r.limitedHigh,
    wordOf r.pinst, wordOf r.request, wordOf r.grant, wordOf r.duty, wordOf r.fan, wordOf r.fresh, s.msWord r.timer]

/-- The 33 words of READ_ZONE (R185). -/
def State.zoneWords (s : State) (z : ZoneId) : List Word :=
  (s.target z).words ++ s.regulatorWords (s.reg z) ++
    [wordOfOpt (s.ta z), wordOf s.scan.tOut, wordOfBool s.scan.stale, wordOf (Tab.get s.link.vehicle.occupancy z : Nat)]

/-- READ_ZONE (R64, R82). -/
def execReadZone (h : Header) (n : Byte) (s : State) : Host.Outcome State Fault Refusal :=
  .next (s.frame 0x20 h [n] anyOrigin fun s => s.readObject n s.zoneWords)

/-! ### READ_DOORWAY (R119) -/

/-- An input that is open or closed, in the order of R104's list. -/
def inputWord (isOpen : Bool) : Word := if isOpen then 0 else 1

/-- The handle of doorway d's cap order as one word, or none (R119). -/
def State.capHandleWord (s : State) (d : DoorId) : Word :=
  match (s.door d).capHandle with
  | some g => .ofBytes (byteOf (capSlot d).val) (g.setWidth 8)
  | none => wordOfOpt none

/-- The words of READ_DOORWAY; the debounce timer is one word as every timer is (R119, R185, assumption 10). -/
def State.doorWords (s : State) (d : DoorId) : List Word :=
  let x := s.door d
  [wordOf (DoorState.pos x.state), inputWord x.raw, inputWord x.accepted, s.msWord x.debounceTimer,
    s.secWord x.holdTimer, s.secWord x.faultTimer, wordOf x.tailRemaining, wordOf x.tailLength,
    wordOfOpt ((s.curtainChan d).map fun c => (c.val : Int)), wordOf x.request, wordOf x.grant, wordOf x.duty,
    s.capHandleWord d] ++
    (zonesOf (s.doorRec d).zones).map fun z => wordOf (s.draftTerm d z)

/-- READ_DOORWAY (R119). -/
def execReadDoorway (h : Header) (n : Byte) (s : State) : Host.Outcome State Fault Refusal :=
  .next (s.frame 0x21 h [n] anyOrigin fun s => s.readObject n s.doorWords)

/-! ### READ_SCREEN (R136) -/

/-- A glazing heater's channel, request, grant and duty. -/
def State.heaterWords (s : State) (a : AuxId) : List Word :=
  let x := s.heater a
  [wordOf (auxChan a).val, wordOf x.request, wordOf x.grant, wordOf x.duty]

/-- The screen heater's words: none and three zeros without a screen heater (assumption 11). -/
def State.screenHeaterWords (s : State) : List Word :=
  match s.screenHeater with
  | some a => s.heaterWords a
  | none => [wordOfOpt none, 0, 0, 0]

/-- The words of READ_SCREEN (R136). -/
def State.screenWords (s : State) : List Word :=
  let c := s.screen
  [wordOf (Watch.pos c.watch), wordOfBool c.initial, wordOfOpt c.ta0, wordOf c.tOut, wordOfBool c.stale,
    wordOfOpt c.glass, wordOfOpt c.humidity, wordOfOpt c.tdew, wordOfOpt c.margin, wordOf c.level, wordOf c.blower,
    wordOfBool c.dir, wordOf c.flap] ++
    s.screenHeaterWords ++ s.mirrors.flatMap s.heaterWords

/-- READ_SCREEN (R136). -/
def execReadScreen (h : Header) (s : State) : Host.Outcome State Fault Refusal :=
  .next (s.frame 0x22 h [] anyOrigin fun s => s.readout s.screenWords)

/-! ### READ_SUPPLY (R155) -/

/-- The gap hold or the pregap timer, whichever runs (R155, R185). -/
def SupplyMonitor.gapTimer (m : SupplyMonitor) : Timer :=
  match m.gapHoldTimer with
  | some e => some e
  | none => m.pregapTimer

/-- Battery-low, in the order of R138's list: asserted, released. -/
def batteryWord (asserted : Bool) : Word := if asserted then 0 else 1

/-- The words of READ_SUPPLY (R155). -/
def State.supplyWords (s : State) : List Word :=
  let m := s.supply
  [wordOf (SupplyState.pos m.state), wordOf m.lastReading, s.msWord m.confirmTimer, s.secWord m.gapTimer,
    wordOfOpt (m.received.map fun n => (n : Int)), wordOf m.status.pos, s.msWord m.allowanceTimer, wordOf s.figure,
    wordOf s.lineAllowance, batteryWord m.lowBat, wordOf s.auxAllowance, wordOf (Mode.pos m.mode)]

/-- READ_SUPPLY (R155). -/
def execReadSupply (h : Header) (s : State) : Host.Outcome State Fault Refusal :=
  .next (s.frame 0x23 h [] anyOrigin fun s => s.readout s.supplyWords)

/-! ### READ_BANK and READ_CHANNEL (R179) -/

/-- The words of READ_BANK (R179). -/
def State.bankWords (s : State) (b : BankId) : List Word :=
  let x := s.bank b
  [wordOf x.state.pos, wordOf x.ramp, s.msWord x.prechargeTimer, s.msWord x.openingTimer, s.msWord x.rampTimer,
    s.secWord x.idleTimer, wordOfBool x.ocRecorded, wordOfBool x.restartPending, wordOf x.outcome.pos,
    wordOf x.faults, wordOf (SupplyState.pos x.supply), wordOfBool (s.kpre b), wordOfBool (s.kmain b),
    wordOfBool (Tab.get s.pins.oc b), wordOf x.lastLink, wordOfBool (s.hasWork b)]

/-- READ_BANK (R179). -/
def execReadBank (h : Header) (n : Byte) (s : State) : Host.Outcome State Fault Refusal :=
  .next (s.frame 0x24 h [n] anyOrigin fun s => s.readObject n s.bankWords)

/-- The channel record, in the order of the table of R8. -/
def ChanRec.words (r : ChanRec) : List Word :=
  [r.type.word, wordOf r.rated, wordOf r.group, wordOf r.limit, wordOfBool r.enabled]

/-- The last reading of a surface state, none where it is lost or there is none (R185). -/
def surfaceReading : Surface → Option Int
  | .reading t => some t
  | .noSensor | .lost => none

/-- The words of READ_CHANNEL (R179). -/
def State.chanWords (s : State) (c : ChanId) : List Word :=
  let x := s.chan c
  let st := s.chanState c
  (s.chanRec c).words ++
    [wordOfOpt ((s.surfaceSensor c).map fun k => (k.val : Int)), wordOfOpt (surfaceReading x.surface), wordOf st.pos,
      if st = .masked then wordOf (s.maskReasons c) else 0, wordOfBool x.overheated, wordOf x.duty,
      wordOf (s.drivenDuty c)]

/-- READ_CHANNEL (R179). -/
def execReadChannel (h : Header) (n : Byte) (s : State) : Host.Outcome State Fault Refusal :=
  .next (s.frame 0x25 h [n] anyOrigin fun s => s.readObject n s.chanWords)

/-! ### READ_SENSOR (R67) -/

/-- The words of READ_SENSOR (R67). -/
def State.sensorWords (s : State) (k : SensorId) : List Word :=
  let r := s.sensorRec k
  let l := s.sensor k
  [r.role.word, wordOf r.origin.pos, wordOf l.state.pos, wordOf l.last, wordOf l.count]

/-- READ_SENSOR (R67). -/
def execReadSensor (h : Header) (n : Byte) (s : State) : Host.Outcome State Fault Refusal :=
  .next (s.frame 0x26 h [n] anyOrigin fun s => s.readObject n s.sensorWords)

end Sys2Proof.Machine
end

