-- ==== Sys2Proof/Machine/Configure.lean ====
section
/-! DEFINITION. CONFIGURE (chapter 01): the checks of R1 in their order, and what an accepted record sets in motion. -/

namespace Sys2Proof.Machine

/-- The answer of a CONFIGURE: refused BAD_FIELD where the index or the enumerated and structural checks fail or the
cross-field check does, BUSY where the state check does, else taken with the clamped record (R1). `read` answers the
record after clamping and whether a field was clamped. -/
def State.configure {n : Nat} {α : Type} (s : State) (index : Byte) (read : Fin n → Option (α × Bool))
    (crossOk : α → Bool) (busy : Fin n → α → Bool) (apply : Fin n → α → State) : Answer :=
  match objectOf n index with
  | none => s.refuse .badField
  | some i =>
    match read i with
    | none => s.refuse .badField
    | some (r, clamped) =>
      if crossOk r then
        if busy i r then s.refuse .busy else { state := apply i r, status := doneOr clamped, payload := [] }
      else s.refuse .badField

/-- No state check. -/
def neverBusy {n : Nat} {α : Type} (_ : Fin n) (_ : α) : Bool := false

/-! ### ZONE (R3, R4) -/

/-- The record of zone z replaced. -/
def State.putZoneRec (s : State) (z : ZoneId) (r : ZoneRec) : State :=
  { s with cfg := { s.cfg with zones := Tab.put s.cfg.zones z r } }

/-- A new section: the flaps whose membership changed are recomputed at once, and the zone posts its demand (R4, R95). -/
def State.sectionChanged (s : State) (z : ZoneId) (old new : ZoneRec) : State :=
  if old.sect = new.sect then s
  else ((s.setFlap old.sect).setFlap new.sect).post [.freshAirPosting z (s.reg z).fresh]

/-- A new band or default setpoint: the zone is resolved at once (R3, R63). -/
def State.bandChanged (s : State) (z : ZoneId) (old new : ZoneRec) : State :=
  if old.setpoint = new.setpoint ∧ old.bandMin = new.bandMin ∧ old.bandMax = new.bandMax then s
  else s.resolve (oneZone z) false

/-- A new minimum fresh air: for an INACTIVE zone the demand follows at once (R3, R100). Every other zone uses it from its
next expiry, a zone in STARTING too, though R95 has its demand be the minimum (assumption 35). -/
def State.freshChanged (s : State) (z : ZoneId) (old new : ZoneRec) : State :=
  if old.minFresh ≠ new.minFresh ∧ (s.reg z).state = .inactive then
    s.zoneTakes z { s.reg z with fresh := new.minFresh, freshRead := new.minFresh }
  else s

/-- A new Kd: the draft terms are recomputed at once (R3, R115). -/
def State.kdChanged (s : State) (old new : ZoneRec) : State := if old.kd = new.kd then s else s.postDrafts

/-- An accepted ZONE record: its effects in the order of R3's list (assumption 17). -/
def State.applyZone (s : State) (z : ZoneId) (r : ZoneRec) : State :=
  let old := s.zoneRec z
  ((((s.putZoneRec z r).bandChanged z old r).kdChanged old r).freshChanged z old r).sectionChanged z old r

/-- CONFIGURE_ZONE (R2, R3); a payload whose kind byte names no record kind is refused BAD_FIELD (R1, R182). -/
def execConfigureZone (h : Header) (p : ZonePayload) (s : State) : Host.Outcome State Fault Refusal :=
  .next (s.frame 0x40 h p.bytes fleetOrService fun s =>
    match p with
    | .unknownKind _ _ => s.refuse .badField
    | .record i w => s.configure i (fun z => zoneRecOf z w) ZoneRec.crossOk neverBusy s.applyZone)

/-! ### DOORWAY (R6, R7, R112) -/

/-- The record of doorway d replaced. -/
def State.putDoorRec (s : State) (d : DoorId) (r : DoorRec) : State :=
  { s with cfg := { s.cfg with doors := Tab.put s.cfg.doors d r } }

/-- R7's state check: the served zones of a HELD doorway may not change. -/
def State.doorBusy (s : State) (d : DoorId) (r : DoorRec) : Bool :=
  decide ((s.door d).state = .held ∧ r.zones ≠ (s.doorRec d).zones)

/-- A new held cap: a HELD doorway's cap order is amended at once (R6). -/
def State.capChanged (s : State) (d : DoorId) (old new : DoorRec) : State :=
  if old.cap ≠ new.cap ∧ (s.door d).state = .held then s.amendValue (capSlot d) new.cap else s

/-- NO_HOLD changed from no to yes: a HELD doorway retires its cap and enters OPEN with no hold timer, an OPEN one stops
its hold timer (R112). -/
def State.noHoldSet (s : State) (d : DoorId) (old new : DoorRec) : State :=
  if !old.noHold && new.noHold then
    match (s.door d).state with
    | .held => (s.dropCap d).doorMoves d { s.door d with state := .opened, holdTimer := none, capHandle := none }
    | .opened => s.setDoor d { s.door d with holdTimer := none }
    | .closed | .tail | .fault => s
  else s

/-- New served zones: the state and zones are posted to the Order Table, and the drafts follow (R6, R118). -/
def State.servedChanged (s : State) (d : DoorId) (old new : DoorRec) : State :=
  if old.zones = new.zones then s else (s.post [s.doorPosting d]).postDrafts

/-- An accepted DOORWAY record: its effects in the order of R6's list (assumption 17). -/
def State.applyDoor (s : State) (d : DoorId) (r : DoorRec) : State :=
  let old := s.doorRec d
  (((s.putDoorRec d r).capChanged d old r).noHoldSet d old r).servedChanged d old r

/-- CONFIGURE_DOORWAY (R5 to R7). -/
def execConfigureDoorway (h : Header) (index : Byte) (w : DoorWords) (s : State) : Host.Outcome State Fault Refusal :=
  .next (s.frame 0x40 h (1 :: index :: bytesOfWords w.words) fleetOrService fun s =>
    s.configure index (fun _ => doorRecOf w) (fun _ => true) s.doorBusy s.applyDoor)

/-! ### CHANNEL (R9, R10) -/

/-- The record of channel c replaced. -/
def State.putChanRec (s : State) (c : ChanId) (r : ChanRec) : State :=
  { s with cfg := { s.cfg with chans := Tab.put s.cfg.chans c r } }

/-- The record changes the type, the rated power or the stagger group (R9). -/
def ChanRec.refits (old new : ChanRec) : Bool :=
  decide (old.type ≠ new.type ∨ old.rated ≠ new.rated ∨ old.group ≠ new.group)

/-- R9's state check: a bank channel's type, rated power and group may not change while its bank is in PRECHARGE, CLOSED,
HOLD or OPENING. -/
def State.chanBusy (s : State) (c : ChanId) (r : ChanRec) : Bool :=
  match bankOf c with
  | none => false
  | some b =>
    (s.chanRec c).refits r &&
      match (s.bank b).state with
      | .precharge | .closed | .hold | .opening => true
      | .opened | .fault | .locked => false

/-- The posting to the consumer of a reconfigured bank channel (R10). -/
def reconfigured (c : ChanId) (t : ChanType) : List Instr :=
  match t with
  | .convector _ | .curtain _ => [.channelReconfiguredPosting c]
  | .none | .screen | .mirror => []

/-- What a changed record does to a bank channel's duty (R10). -/
def State.refitBankChan (s : State) (c : ChanId) (old new : ChanRec) : State :=
  if old.refits new then (s.setChan c { s.chan c with duty := 0 }).post (reconfigured c new.type) else s

/-- What a changed type does to an AUX channel: its duty, the Screen Controller's figures for it and its entry in the aux
pool go to 0, and the pool reallocates (R10, R134, R162, R163). -/
def State.refitAuxChan (s : State) (a : AuxId) (old new : ChanRec) : State :=
  if old.type = new.type then s
  else
    let t := s.setChan (auxChan a) { s.chan (auxChan a) with duty := 0 }
    let t := t.setHeater a { request := 0, grant := 0, duty := 0 }
    (t.setPoolEntry (.aux a) (s.poolEntry (.aux a)).cleared).reallocAux

/-- An accepted CHANNEL record (R10, R178). -/
def State.applyChan (s : State) (c : ChanId) (r : ChanRec) : State :=
  let old := s.chanRec c
  let t := s.putChanRec c r
  let t :=
    match auxOf c with
    | none => t.refitBankChan c old r
    | some a => t.refitAuxChan a old r
  (t.afterChange s c).postAvail s

/-- CONFIGURE_CHANNEL (R8 to R10). -/
def execConfigureChannel (h : Header) (index : Byte) (w : ChanWords) (s : State) : Host.Outcome State Fault Refusal :=
  .next (s.frame 0x40 h (2 :: index :: bytesOfWords w.words) fleetOrService fun s =>
    s.configure index (fun c => s.chanRecOf c w) ChanRec.crossOk s.chanBusy s.applyChan)

/-! ### SENSOR (R13) -/

/-- The record of sensor channel k replaced. -/
def State.putSensorRec (s : State) (k : SensorId) (r : SensorRec) : State :=
  { s with cfg := { s.cfg with sensors := Tab.put s.cfg.sensors k r } }

/-- The live fields of a channel restarted by a change of role or origin (R13). -/
def State.restartedSensor (s : State) (r : SensorRec) : SensorLive where
  state := .suspect
  last := 0
  count := 0
  holdTimer := if r.role = .unused then none else s.startSec r.hold
  refreshTimer := if r.role ≠ .unused ∧ r.origin = .external then s.startMs Config.refreshMs else none

/-- An accepted SENSOR record: a changed role or origin restarts the channel, discards its conversion in a running pass,
and has what it fed and feeds recomputed and posted (R13, R69). -/
def State.applySensor (s : State) (k : SensorId) (r : SensorRec) : State :=
  let old := s.sensorRec k
  let t := s.putSensorRec k r
  if old.role = r.role ∧ old.origin = r.origin then t
  else
    let t := t.setSensor k (s.restartedSensor r)
    let t := { t with scan := { t.scan with pass := t.scan.pass.filter fun x => decide (x ≠ k) } }
    let t := t.derived s (if old.role = r.role then [r.role] else [old.role, r.role])
    if s.scan.pass = [] then t else t.passDone

/-- CONFIGURE_SENSOR (R12, R13). -/
def execConfigureSensor (h : Header) (index : Byte) (w : SensorWords) (s : State) :
    Host.Outcome State Fault Refusal :=
  .next (s.frame 0x40 h (3 :: index :: bytesOfWords w.words) fleetOrService fun s =>
    s.configure index (fun k => s.sensorRecOf k w) (fun _ => true) neverBusy s.applySensor)

/-! ### BANK (R11) -/

/-- An accepted BANK record: running operations keep their times (R11). -/
def State.applyBank (s : State) (b : BankId) (r : BankRec) : State :=
  { s with cfg := { s.cfg with banks := Tab.put s.cfg.banks b r } }

/-- CONFIGURE_BANK (R11). -/
def execConfigureBank (h : Header) (index : Byte) (w : BankWords) (s : State) : Host.Outcome State Fault Refusal :=
  .next (s.frame 0x40 h (4 :: index :: bytesOfWords w.words) fleetOrService fun s =>
    s.configure index (fun _ => some (bankRecOf w)) (fun _ => true) neverBusy s.applyBank)

/-! ### SUPPLY (R14) -/

/-- The aux allowance in force is posted to the Allocator if it differs from that before the event (R151). -/
def State.postAuxAllowance (s old : State) : State :=
  if s.auxAllowance = old.auxAllowance then s else s.post [.auxAllowancePosting s.auxAllowance]

/-- An accepted SUPPLY record: the allowances in force follow at once (R14). -/
def State.applySupply (s : State) (_ : Fin 1) (r : SupplyRec) : State :=
  let t := { s with cfg := { s.cfg with supply := r } }
  (t.postAllowance s).postAuxAllowance s

/-- CONFIGURE_SUPPLY (R14). -/
def execConfigureSupply (h : Header) (index : Byte) (w : SupplyWords) (s : State) :
    Host.Outcome State Fault Refusal :=
  .next (s.frame 0x40 h (5 :: index :: bytesOfWords w.words) fleetOrService fun s =>
    s.configure index (fun _ => some (supplyRecOf w)) SupplyRec.crossOk neverBusy s.applySupply)

/-! ### SCREEN (R15) -/

/-- A new dwell amends the count of slot 62, and the screen level is resolved (R15, R63). -/
def State.dwellChanged (s : State) (old new : ScreenRec) : State :=
  if old.dwell = new.dwell then s
  else (s.changeEntry screenSlot fun e => { e with ord := { e.ord with count := new.dwell } }).resolve 0 true

/-- An accepted SCREEN record: the thresholds are used from the next evaluation (R15). -/
def State.applyScreen (s : State) (_ : Fin 1) (r : ScreenRec) : State :=
  { s with cfg := { s.cfg with screen := r } }.dwellChanged s.cfg.screen r

/-- CONFIGURE_SCREEN (R15). -/
def execConfigureScreen (h : Header) (index : Byte) (w : ScreenWords) (s : State) :
    Host.Outcome State Fault Refusal :=
  .next (s.frame 0x40 h (6 :: index :: bytesOfWords w.words) fleetOrService fun s =>
    s.configure index (fun _ => some (screenRecOf w)) ScreenRec.crossOk neverBusy s.applyScreen)

/-! ### LIMITS (R16) -/

/-- New frost or warm thresholds are posted to the Order Table (R16). -/
def State.thresholdsChanged (s : State) (old new : LimitsRec) : State :=
  if old.frost = new.frost ∧ old.warm = new.warm then s else s.post [.conditionPosting (.thresholds new.frost new.warm)]

/-- An accepted LIMITS record: the thresholds are posted where they changed, and slot 63 is amended to the base floor at
every acceptance (R16). -/
def State.applyLimits (s : State) (_ : Fin 1) (r : LimitsRec) : State :=
  ({ s with cfg := { s.cfg with limits := r } }.thresholdsChanged s.cfg.limits r).amendValue baseSlot r.floor

/-- CONFIGURE_LIMITS (R16). -/
def execConfigureLimits (h : Header) (index : Byte) (w : LimitsWords) (s : State) :
    Host.Outcome State Fault Refusal :=
  .next (s.frame 0x40 h (7 :: index :: bytesOfWords w.words) fleetOrService fun s =>
    s.configure index (fun _ => limitsRecOf w) LimitsRec.crossOk neverBusy s.applyLimits)

end Sys2Proof.Machine
end

