-- ==== Sys2Proof/Machine/Power.lean ====
section
/-! DEFINITION. POWER_ON: every block takes its power-on state, with the input pins as they stand (R66, R104, R138). -/

namespace Sys2Proof.Machine

/-- A doorway at power-on: the raw input is DINd as it stands, and an open one starts the debounce timer (R104). -/
def Door.poweredOn (raw : Bool) (debounce : Nat) : Door :=
  { Door.reset with raw := raw, debounceTimer := if raw then some debounce else none }

/-- The part at power-on, with the levels at its input pins those of `s` and its waiting commands kept (assumption 4):
DINd sets each doorway's raw input, BATLOW the battery-low state and with it the aux allowance in force (R43, R104,
R138, R157). -/
def State.poweredOn (s : State) : State :=
  let r := State.reset
  { r with
    pins := s.pins
    orders := { r.orders with cond := { r.orders.cond with lowBat := s.pins.batLow } }
    mon := { r.mon with doors := Tab.build fun d => Door.poweredOn (s.door d).raw (r.doorRec d).debounce }
    supply := { r.supply with lowBat := s.pins.batLow }
    alloc := { r.alloc with auxAllowance := if s.pins.batLow then 0 else r.cfg.supply.aux }
    pending := s.pending }

/-- POWER_ON (R66). -/
def execPowerOn (s : State) : Host.Outcome State Fault Refusal := .next s.poweredOn

end Sys2Proof.Machine
end

