-- ==== Sys2Proof/Machine/Timers.lean ====
section
/-! DEFINITION. What the part does by itself while no command and no posting waits: the conversion of a running pass, else
the timer that expires first (assumption 2). -/

namespace Sys2Proof.Machine

/-- A DUTY_POSTING. -/
def Instr.isDuty : Instr → Bool
  | .dutyPosting _ _ => true
  | _ => false

/-- A timer's expiry as an event due at its time. -/
def dueAt (t : Timer) (i : Instr) : List (Nat × Instr) :=
  match t with
  | none => []
  | some e => [(e, i)]

/-- The events of the Supply Monitor: the 20 ms reading of VLINE and BATLOW as the pins stand, and its timers. -/
def State.supplyDue (s : State) : List (Nat × Instr) :=
  (s.supply.nextReading, .lineReading s.pins.vline s.pins.batLow) ::
    (dueAt s.supply.confirmTimer .confirmationExpiry ++ dueAt s.supply.gapHoldTimer .gapHoldExpiry ++
      dueAt s.supply.pregapTimer .pregapExpiry ++ dueAt s.supply.allowanceTimer .allowanceExpiry)

/-- The timers of the Sensor Scanner. -/
def State.scanDue (s : State) : List (Nat × Instr) :=
  dueAt s.scan.scanTimer .scanExpiry ++
    (List.finRange 32).flatMap fun k =>
      dueAt (s.sensor k).refreshTimer (.refreshExpiry k) ++ dueAt (s.sensor k).holdTimer (.sensorHoldExpiry k)

/-- The interval timers of the zones. -/
def State.zonesDue (s : State) : List (Nat × Instr) :=
  (List.finRange 8).flatMap fun z => dueAt (s.reg z).timer (.intervalExpiry z)

/-- The timers of the doorways. -/
def State.doorsDue (s : State) : List (Nat × Instr) :=
  (List.finRange 6).flatMap fun d =>
    dueAt (s.door d).debounceTimer (.debounceExpiry d) ++ dueAt (s.door d).holdTimer (.holdExpiry d) ++
      dueAt (s.door d).tailTimer (.tailSecond d) ++ dueAt (s.door d).faultTimer (.faultExpiry d)

/-- The timers of the banks; a precharge completes with VLINKb as the pin stands. -/
def State.banksDue (s : State) : List (Nat × Instr) :=
  (List.finRange 4).flatMap fun b =>
    dueAt (s.bank b).prechargeTimer (.prechargeCompletion b (Tab.get s.pins.vlink b)) ++
      dueAt (s.bank b).openingTimer (.openingCompletion b) ++ dueAt (s.bank b).rampTimer (.rampExpiry b) ++
      dueAt (s.bank b).idleTimer (.idleExpiry b)

/-- Every event due, in the fixed order that settles ties: the time base first, then the Supply Monitor, the Scanner, the
zones, the doorways and the banks. -/
def State.due (s : State) : List (Nat × Instr) :=
  (s.orders.boundary, .timeBaseBoundary) ::
    (s.supplyDue ++ s.scanDue ++ s.zonesDue ++ s.doorsDue ++ s.banksDue)

/-- The earliest of a list of events, the first of those due together. -/
def earliest (x : Nat × Instr) : List (Nat × Instr) → Instr
  | [] => x.2
  | y :: ys => if y.1 < x.1 then earliest y ys else earliest x ys

/-- The choice among the waiting postings: the oldest, but that the Bank Controller takes the duty postings waiting for it
before its own RESTART. R187 orders neither before the other, and R173 has every duty at 0 once the banks have restarted
(assumption 1). Answers the posting taken and those that go on waiting. -/
def takePosting : List Instr → Option (Instr × List Instr)
  | [] => none
  | p :: rest =>
    if p = .bankControllerRestart then
      match rest.find? Instr.isDuty with
      | some q => some (q, p :: rest.erase q)
      | none => some (p, rest)
    else some (p, rest)

/-- The part's own next event: the conversion of a running pass, which delivers AINk as the pin stands, else the timer
that expires first. -/
def State.ownEvent (s : State) : Instr :=
  match s.scan.pass with
  | k :: _ => .conversionArrival k (Tab.get s.pins.ain k)
  | [] =>
    match s.due with
    | x :: xs => earliest x xs
    | [] => .timeBaseBoundary

end Sys2Proof.Machine
end

