-- ==== Sys2Proof/Machine/Dispatch.lean ====
section
/-! DEFINITION. The dispatch: one arm for each command, each one direct call of its meaning. -/

namespace Sys2Proof.Machine

def exec (i : Instr) (s : State) : Host.Outcome State Fault Refusal :=
  match i with
  | .powerOn => Sys2Proof.Machine.execPowerOn s
  | .nop h => Sys2Proof.Machine.execNop h s
  | .malformedFrame bytes => Sys2Proof.Machine.execMalformedFrame bytes s
  | .place h r => Sys2Proof.Machine.execPlace h r s
  | .amend h k r => Sys2Proof.Machine.execAmend h k r s
  | .retire h k => Sys2Proof.Machine.execRetire h k s
  | .latch h k => Sys2Proof.Machine.execLatch h k s
  | .readOrder h k => Sys2Proof.Machine.execReadOrder h k s
  | .listOrders h => Sys2Proof.Machine.execListOrders h s
  | .readZone h n => Sys2Proof.Machine.execReadZone h n s
  | .readDoorway h n => Sys2Proof.Machine.execReadDoorway h n s
  | .readScreen h => Sys2Proof.Machine.execReadScreen h s
  | .readSupply h => Sys2Proof.Machine.execReadSupply h s
  | .readBank h n => Sys2Proof.Machine.execReadBank h n s
  | .readChannel h n => Sys2Proof.Machine.execReadChannel h n s
  | .readSensor h n => Sys2Proof.Machine.execReadSensor h n s
  | .vehicle h v => Sys2Proof.Machine.execVehicle h v s
  | .allowance h v => Sys2Proof.Machine.execAllowance h v s
  | .gapAhead h => Sys2Proof.Machine.execGapAhead h s
  | .sense h n v => Sys2Proof.Machine.execSense h n v s
  | .mode h v => Sys2Proof.Machine.execMode h v s
  | .configureZone h p => Sys2Proof.Machine.execConfigureZone h p s
  | .configureDoorway h index w => Sys2Proof.Machine.execConfigureDoorway h index w s
  | .configureChannel h index w => Sys2Proof.Machine.execConfigureChannel h index w s
  | .configureSensor h index w => Sys2Proof.Machine.execConfigureSensor h index w s
  | .configureBank h index w => Sys2Proof.Machine.execConfigureBank h index w s
  | .configureSupply h index w => Sys2Proof.Machine.execConfigureSupply h index w s
  | .configureScreen h index w => Sys2Proof.Machine.execConfigureScreen h index w s
  | .configureLimits h index w => Sys2Proof.Machine.execConfigureLimits h index w s
  | .curvePointer h v => Sys2Proof.Machine.execCurvePointer h v s
  | .curveDataWrite h v => Sys2Proof.Machine.execCurveDataWrite h v s
  | .curveDataRead h => Sys2Proof.Machine.execCurveDataRead h s
  | .bankLock h n => Sys2Proof.Machine.execBankLock h n s
  | .bankUnlock h n => Sys2Proof.Machine.execBankUnlock h n s
  | .bankClear h n => Sys2Proof.Machine.execBankClear h n s
  | .restart h => Sys2Proof.Machine.execRestart h s
  | .cause h => Sys2Proof.Machine.execCause h s
  | .mask h v => Sys2Proof.Machine.execMask h v s
  | .orderTableRestart => Sys2Proof.Machine.execOrderTableRestart s
  | .sensorScannerRestart => Sys2Proof.Machine.execSensorScannerRestart s
  | .zoneRegulatorRestart z => Sys2Proof.Machine.execZoneRegulatorRestart z s
  | .doorwayMonitorRestart => Sys2Proof.Machine.execDoorwayMonitorRestart s
  | .screenControllerRestart => Sys2Proof.Machine.execScreenControllerRestart s
  | .supplyMonitorRestart => Sys2Proof.Machine.execSupplyMonitorRestart s
  | .allocatorRestart => Sys2Proof.Machine.execAllocatorRestart s
  | .bankControllerRestart => Sys2Proof.Machine.execBankControllerRestart s
  | .timeBaseBoundary => Sys2Proof.Machine.execTimeBaseBoundary s
  | .countdownExpiry k => Sys2Proof.Machine.execCountdownExpiry k s
  | .orderTailExpiry k => Sys2Proof.Machine.execOrderTailExpiry k s
  | .pulsePeriodExpiry k => Sys2Proof.Machine.execPulsePeriodExpiry k s
  | .scanExpiry => Sys2Proof.Machine.execScanExpiry s
  | .conversionArrival k v => Sys2Proof.Machine.execConversionArrival k v s
  | .refreshExpiry k => Sys2Proof.Machine.execRefreshExpiry k s
  | .sensorHoldExpiry k => Sys2Proof.Machine.execSensorHoldExpiry k s
  | .intervalExpiry z => Sys2Proof.Machine.execIntervalExpiry z s
  | .zoneGrant z g => Sys2Proof.Machine.execZoneGrant z g s
  | .draftPosting z d => Sys2Proof.Machine.execDraftPosting z d s
  | .pinstPosting z => Sys2Proof.Machine.execPinstPosting z s
  | .capLowered z c => Sys2Proof.Machine.execCapLowered z c s
  | .zoneInactivePosting z => Sys2Proof.Machine.execZoneInactivePosting z s
  | .doorwayInputChange d isOpen => Sys2Proof.Machine.execDoorwayInputChange d isOpen s
  | .debounceExpiry d => Sys2Proof.Machine.execDebounceExpiry d s
  | .holdExpiry d => Sys2Proof.Machine.execHoldExpiry d s
  | .tailSecond d => Sys2Proof.Machine.execTailSecond d s
  | .doorwayTailExpiry d => Sys2Proof.Machine.execDoorwayTailExpiry d s
  | .faultExpiry d => Sys2Proof.Machine.execFaultExpiry d s
  | .movingFlagPosting moving => Sys2Proof.Machine.execMovingFlagPosting moving s
  | .zoneTargetPosting z ts => Sys2Proof.Machine.execZoneTargetPosting z ts s
  | .toPosting t => Sys2Proof.Machine.execToPosting t s
  | .curtainChannelPosting ds => Sys2Proof.Machine.execCurtainChannelPosting ds s
  | .curtainGrant d g => Sys2Proof.Machine.execCurtainGrant d g s
  | .freshAirPosting z v => Sys2Proof.Machine.execFreshAirPosting z v s
  | .screenSensorPosting ta0 tOut stale glass humidity => Sys2Proof.Machine.execScreenSensorPosting ta0 tOut stale glass humidity s
  | .watchPosting w value => Sys2Proof.Machine.execWatchPosting w value s
  | .screenLevelPosting level => Sys2Proof.Machine.execScreenLevelPosting level s
  | .zone0Posting fan fresh => Sys2Proof.Machine.execZone0Posting fan fresh s
  | .auxChannelPosting a => Sys2Proof.Machine.execAuxChannelPosting a s
  | .auxGrant a g => Sys2Proof.Machine.execAuxGrant a g s
  | .conditionPosting x => Sys2Proof.Machine.execConditionPosting x s
  | .orderTableParkClear => Sys2Proof.Machine.execOrderTableParkClear s
  | .orderTableModePosting m => Sys2Proof.Machine.execOrderTableModePosting m s
  | .lineReading volts batLow => Sys2Proof.Machine.execLineReading volts batLow s
  | .confirmationExpiry => Sys2Proof.Machine.execConfirmationExpiry s
  | .gapHoldExpiry => Sys2Proof.Machine.execGapHoldExpiry s
  | .pregapExpiry => Sys2Proof.Machine.execPregapExpiry s
  | .allowanceExpiry => Sys2Proof.Machine.execAllowanceExpiry s
  | .lineRequestPosting m r => Sys2Proof.Machine.execLineRequestPosting m r s
  | .auxRequestPosting a r => Sys2Proof.Machine.execAuxRequestPosting a r s
  | .availableHeatPosting x others => Sys2Proof.Machine.execAvailableHeatPosting x others s
  | .allocatorAllowancePosting allowance => Sys2Proof.Machine.execAllocatorAllowancePosting allowance s
  | .allocatorSupplyPosting x allowance => Sys2Proof.Machine.execAllocatorSupplyPosting x allowance s
  | .allocatorModePosting m allowance => Sys2Proof.Machine.execAllocatorModePosting m allowance s
  | .auxAllowancePosting allowance => Sys2Proof.Machine.execAuxAllowancePosting allowance s
  | .dutyPosting c x => Sys2Proof.Machine.execDutyPosting c x s
  | .channelReconfiguredPosting c => Sys2Proof.Machine.execChannelReconfiguredPosting c s
  | .bankSupplyPosting b x => Sys2Proof.Machine.execBankSupplyPosting b x s
  | .surfacePosting c x => Sys2Proof.Machine.execSurfacePosting c x s
  | .overcurrent b asserted => Sys2Proof.Machine.execOvercurrent b asserted s
  | .prechargeCompletion b vlink => Sys2Proof.Machine.execPrechargeCompletion b vlink s
  | .rampExpiry b => Sys2Proof.Machine.execRampExpiry b s
  | .idleExpiry b => Sys2Proof.Machine.execIdleExpiry b s
  | .openingCompletion b => Sys2Proof.Machine.execOpeningCompletion b s

end Sys2Proof.Machine
end

