-- ==== Sys2Proof/Machine/Step.lean ====
section
/-! DEFINITION. The step: the command at the front of the queue, else the posting chosen among those waiting, else the part's own next event
(assumptions 1 and 2). -/

namespace Sys2Proof.Machine

/-- One step of the part. -/
def step (s : State) : Host.Outcome State Fault Refusal :=
  match s.pending, takePosting s.posts with
  | c :: rest, _ => exec c { s with pending := rest }
  | [], some (p, rest) => exec p { s with posts := rest }
  | [], none => exec s.ownEvent s

/-- The state with the command that a word spells at the front of its queue; unchanged where it spells none. -/
def State.withFetchWord (s : State) (nbits w : Nat) : State :=
  match decodeTableWord nbits w with
  | some c => { s with pending := c :: s.pending }
  | none => s

end Sys2Proof.Machine
end

