-- ==== Sys2Proof/WellFormed.lean ====
section
/-! DEFINITION. Which commands are well formed: the bytes of a malformed frame spell no frame, a payload of an unknown
record kind fits a frame, and the operands of an event or a posting lie in the ranges that the rule naming them gives. -/

namespace Sys2Proof

/-- The number lies in lo to hi. -/
def within (lo hi x : Int) : Bool := decide (lo ≤ x ∧ x ≤ hi)

/-- The number, if there is one, lies in lo to hi. -/
def withinOpt (lo hi : Int) : Option Int → Bool
  | none => true
  | some x => within lo hi x

/-- A CONFIGURE payload: a kind byte that names no record kind comes with an index byte and fits 28 bytes (R182, R191). -/
def ZonePayload.wf : ZonePayload → Bool
  | .record _ _ => true
  | .unknownKind kind rest => decide (8 ≤ kind.toNat) && decide (1 ≤ rest.length) && decide (rest.length ≤ 27)

/-- An input of the condition word: To and the thresholds in their ranges, the served zones not empty (R5, R16, R45,
R121). -/
def CondInput.wf : CondInput → Bool
  | .vehicle _ _ _ _ | .supply _ | .batteryLow _ | .airValidity _ _ => true
  | .doorway _ _ zones => zones != 0
  | .outside t _ => within (-500) 850 t
  | .thresholds frost warm => within (-200) 100 frost && within 100 350 warm

/-- A surface reading in the valid range of its role (R72). -/
def Surface.wf : Surface → Bool
  | .noSensor | .lost => true
  | .reading t => within (-500) 2000 t

/-- The most a pool member can ask for: a zone the rated powers of all 32 bank channels, a curtain or an AUX channel one
(R8, R92, R157). -/
def PoolMember.most : PoolMember → Nat
  | .line (.zone _) => 3200
  | .line (.curtain _) | .aux _ => 100

/-- The well-formed commands. -/
def WellFormed : Instr → Bool
  | .malformedFrame bytes => !bytes.isEmpty && (decodeWellFormed bytes).isNone
  | .configureZone _ p => p.wf
  | .powerOn | .nop _ | .place _ _ | .amend _ _ _ | .retire _ _ | .latch _ _ | .readOrder _ _ | .listOrders _
    | .readZone _ _ | .readDoorway _ _ | .readScreen _ | .readSupply _ | .readBank _ _ | .readChannel _ _
    | .readSensor _ _ | .vehicle _ _ | .allowance _ _ | .gapAhead _ | .sense _ _ _ | .mode _ _
    | .configureDoorway _ _ _ | .configureChannel _ _ _ | .configureSensor _ _ _ | .configureBank _ _ _
    | .configureSupply _ _ _ | .configureScreen _ _ _ | .configureLimits _ _ _ | .curvePointer _ _
    | .curveDataWrite _ _ | .curveDataRead _ | .bankLock _ _ | .bankUnlock _ _ | .bankClear _ _ | .restart _
    | .cause _ | .mask _ _ => true
  | .orderTableRestart | .sensorScannerRestart | .zoneRegulatorRestart _ | .doorwayMonitorRestart
    | .screenControllerRestart | .supplyMonitorRestart | .allocatorRestart | .bankControllerRestart
    | .timeBaseBoundary | .countdownExpiry _ | .orderTailExpiry _ | .pulsePeriodExpiry _ | .scanExpiry
    | .refreshExpiry _ | .sensorHoldExpiry _ | .intervalExpiry _ | .pinstPosting _ | .zoneInactivePosting _
    | .doorwayInputChange _ _ | .debounceExpiry _ | .holdExpiry _ | .tailSecond _ | .doorwayTailExpiry _
    | .faultExpiry _ | .movingFlagPosting _ | .auxChannelPosting _
    | .orderTableParkClear | .orderTableModePosting _ | .confirmationExpiry | .gapHoldExpiry | .pregapExpiry
    | .allowanceExpiry | .channelReconfiguredPosting _ | .bankSupplyPosting _ _ | .overcurrent _ _ | .rampExpiry _
    | .idleExpiry _ | .openingCompletion _ => true
  | .conversionArrival _ v => within (-32768) 32767 v
  | .zoneGrant _ g => decide (g ≤ 3200)
  | .draftPosting _ d => decide (d ≤ 1000)
  | .capLowered _ c => decide (c ≤ 100)
  | .zoneTargetPosting _ ts => withinOpt 1 300 ts
  | .toPosting t => within (-500) 850 t
  | .curtainChannelPosting ds => !ds.isEmpty
  | .curtainGrant _ g => decide (g ≤ 100)
  | .freshAirPosting _ v => decide (v ≤ 100)
  | .screenSensorPosting ta0 tOut _ glass humidity =>
    withinOpt (-500) 850 ta0 && within (-500) 850 tOut && withinOpt (-500) 850 glass && withinOpt 0 1000 humidity
  | .watchPosting _ value => withinOpt 0 2 (value.map fun n => (n : Int))
  | .screenLevelPosting level => decide (level ≤ 2)
  | .zone0Posting fan fresh => decide (fan ≤ 7) && decide (fresh ≤ 100)
  | .auxGrant _ g => decide (g ≤ 100)
  | .conditionPosting x => x.wf
  | .lineReading volts _ => decide (volts ≤ 1500)
  | .lineRequestPosting m r => decide (r ≤ PoolMember.most (.line m))
  | .auxRequestPosting _ r => decide (r ≤ 100)
  | .availableHeatPosting x others => (x :: others).all fun y => decide (y.2 ≤ y.1.most)
  | .allocatorAllowancePosting allowance => decide (allowance ≤ 1200)
  | .allocatorSupplyPosting _ allowance => decide (allowance ≤ 1200)
  | .allocatorModePosting _ allowance => decide (allowance ≤ 1200)
  | .auxAllowancePosting allowance => decide (allowance ≤ 100)
  | .dutyPosting _ x => decide (x.duty ≤ 1000)
  | .surfacePosting _ x => x.wf
  | .prechargeCompletion _ vlink => decide (vlink ≤ 1500)

end Sys2Proof
end

