-- ==== Sys2Proof/Safety.lean ====
section
/-! DEFINITION. What counts as a sound state of the part: the whole-part properties the spec states, and the relations
between two states that the statements use. -/

namespace Sys2Proof.Machine

/-! ### Frames: what two states share -/

/-- The state once the bytes of a frame's transaction have been clocked, before its command is taken (R181, R183). -/
abbrev State.taken (s : State) (code : Byte) (h : Header) (payload : List Byte) : State :=
  s.clock (transactionBytes code h payload)

/-- The state after a well-formed frame that is refused: the reply is the only trace of it (R184). -/
abbrev State.refused (s : State) (code : Byte) (h : Header) (payload : List Byte) (status : Status) : State :=
  (s.taken code h payload).reply code status []

/-- An entry without its effect, which every resolution of its zones recomputes. -/
def Entry.plain (e : Entry) : Entry := { e with live := { e.live with effect := .none } }

/-- A slot without the effect of its order. -/
def Slot.plain (x : Slot) : Slot := { x with entry := x.entry.map Entry.plain }

/-- The two states differ in the Order Table and in the waiting postings alone. -/
abbrev onlyOrders (s t : State) : Prop := t = { s with orders := t.orders, posts := t.posts }

/-- The parts of the state, each but the pins and the two queues owned by one block. -/
inductive Part where
  | clock | pins | cabin | link | orders | scan | regs | flaps | mon | screen | supply | alloc | banks | chans
  deriving DecidableEq, Repr

/-- The two states agree in a part. -/
def Part.same (s t : State) : Part → Prop
  | .clock => t.now = s.now
  | .pins => t.pins = s.pins
  | .cabin => t.cfg = s.cfg
  | .link => t.link = s.link
  | .orders => t.orders = s.orders
  | .scan => t.scan = s.scan
  | .regs => t.regs = s.regs
  | .flaps => t.flaps = s.flaps
  | .mon => t.mon = s.mon
  | .screen => t.screen = s.screen
  | .supply => t.supply = s.supply
  | .alloc => t.alloc = s.alloc
  | .banks => t.banks = s.banks
  | .chans => t.chans = s.chans

/-- The parts a command may change. Every other block hears of it by a posting alone. -/
def partsOf : Instr → List Part
  | .powerOn =>
    [.clock, .cabin, .link, .orders, .scan, .regs, .flaps, .mon, .screen, .supply, .alloc, .banks, .chans]
  | .nop _ | .malformedFrame _ | .readZone _ _ | .readDoorway _ _ | .readScreen _ | .readSupply _ | .readBank _ _
    | .readChannel _ _ | .readSensor _ _ | .vehicle _ _ | .curvePointer _ _ | .curveDataRead _ | .restart _ | .cause _
    | .mask _ _ => [.link]
  | .place _ _ | .amend _ _ _ | .retire _ _ | .latch _ _ | .readOrder _ _ | .listOrders _ => [.link, .orders]
  | .allowance _ _ | .gapAhead _ | .mode _ _ => [.link, .supply]
  | .sense _ _ _ => [.link, .scan]
  | .configureZone _ _ => [.link, .cabin, .orders, .regs, .flaps, .mon]
  | .configureDoorway _ _ _ => [.link, .cabin, .orders, .mon]
  | .configureChannel _ _ _ => [.link, .cabin, .banks, .chans, .screen, .alloc]
  | .configureSensor _ _ _ => [.link, .cabin, .scan]
  | .configureBank _ _ _ | .configureSupply _ _ _ | .curveDataWrite _ _ => [.link, .cabin]
  | .configureScreen _ _ _ | .configureLimits _ _ _ => [.link, .cabin, .orders]
  | .bankLock _ _ | .bankUnlock _ _ | .bankClear _ _ => [.link, .banks]
  | .orderTableRestart | .conditionPosting _ | .watchPosting _ _ | .orderTableModePosting _ | .orderTailExpiry _
    | .pulsePeriodExpiry _ => [.orders]
  | .timeBaseBoundary => [.clock, .orders, .link]
  | .countdownExpiry _ | .orderTableParkClear => [.orders, .link]
  | .sensorScannerRestart | .channelReconfiguredPosting _ => []
  | .scanExpiry | .refreshExpiry _ => [.clock, .scan]
  | .sensorHoldExpiry _ => [.clock, .scan, .link]
  | .conversionArrival _ _ => [.pins, .scan]
  | .zoneRegulatorRestart _ | .zoneGrant _ _ | .draftPosting _ _ | .pinstPosting _ | .capLowered _ _
    | .zoneInactivePosting _ => [.regs]
  | .intervalExpiry _ => [.clock, .regs]
  | .freshAirPosting _ _ => [.flaps]
  | .doorwayMonitorRestart => [.mon, .orders]
  | .doorwayInputChange _ _ | .movingFlagPosting _ | .zoneTargetPosting _ _ | .toPosting _ | .curtainChannelPosting _
    | .curtainGrant _ _ | .doorwayTailExpiry _ => [.mon]
  | .debounceExpiry _ | .holdExpiry _ => [.clock, .mon, .orders]
  | .tailSecond _ => [.clock, .mon]
  | .faultExpiry _ => [.clock, .mon, .orders, .link]
  | .screenControllerRestart | .screenLevelPosting _ | .zone0Posting _ _ | .auxChannelPosting _ | .auxGrant _ _ =>
    [.screen]
  | .screenSensorPosting _ _ _ _ _ => [.screen, .link]
  | .supplyMonitorRestart => [.supply]
  | .lineReading _ _ => [.clock, .pins, .supply, .link]
  | .confirmationExpiry | .gapHoldExpiry | .pregapExpiry | .allowanceExpiry => [.clock, .supply, .link]
  | .allocatorRestart | .lineRequestPosting _ _ | .auxRequestPosting _ _ | .availableHeatPosting _ _
    | .allocatorAllowancePosting _ | .allocatorSupplyPosting _ _ | .allocatorModePosting _ _
    | .auxAllowancePosting _ => [.alloc]
  | .bankControllerRestart | .bankSupplyPosting _ _ => [.banks]
  | .dutyPosting _ _ | .surfacePosting _ _ => [.banks, .chans]
  | .overcurrent _ _ => [.pins, .banks]
  | .prechargeCompletion _ _ => [.clock, .pins, .banks]
  | .rampExpiry _ | .idleExpiry _ => [.clock, .banks]
  | .openingCompletion _ => [.clock, .banks, .link]

/-! ### Rights at the port and at the Order Table (R26 to R28, R182) -/

/-- The origins from which the table of R182 takes a code. -/
def originTaken (code : Byte) (o : Origin) : Bool :=
  match code.toNat with
  | 0x30 | 0x31 | 0x32 | 0x40 | 0x41 | 0x42 | 0x53 | 0x61 => decide (o = .fleet ∨ o = .service)
  | 0x33 | 0x34 => decide (o ≠ .driver)
  | 0x50 | 0x51 | 0x52 => decide (o = .service)
  | _ => true

/-- The kinds an origin may place, by the table of R26. -/
def placeable : Origin → List Kind
  | .service => [.hold, .offset, .floor, .cap, .vent, .screen]
  | .driver => [.hold, .offset, .vent, .screen]
  | .fleet => [.hold, .offset, .floor, .cap, .vent]
  | .depot => [.hold, .floor, .vent]

/-- The sources whose orders an origin may amend and retire, by the table of R26. -/
def amendable : Origin → List Source
  | .service => [.service, .driver, .fleet, .depot]
  | .driver => [.driver]
  | .fleet => [.driver, .fleet, .depot]
  | .depot => [.depot]

/-- The origin may place this order: its kind (R26), the driver zone mask (R27), the depot lifetime limit (R28). -/
abbrev placeRight (l : LimitsRec) (o : Origin) (r : OrderRec) : Prop :=
  r.kind ∈ placeable o ∧
    (o = .driver → r.kind ≠ .screen → ∀ z, hasZone r.zones z = true → hasZone l.mask z = true) ∧
    (o = .depot → r.mode ≠ .tail ∧ r.mode ≠ .pulse)

/-- The PULSE checks of R25. -/
abbrev pulseWellBuilt (r : OrderRec) : Prop :=
  r.mode = .pulse → r.count ≠ 1 ∧ (r.onTime = 0 ∨ r.onTime < r.count)

/-- The structural checks of R25. -/
abbrev wellBuilt (r : OrderRec) : Prop := (r.kind ≠ .screen → r.zones ≠ 0) ∧ pulseWellBuilt r

/-- A value after the clamp of R24 and, from a DRIVER, that of R27. -/
def heldValue (l : LimitsRec) (o : Origin) (kind : Kind) (v : Int) : Int :=
  match kind with
  | .hold =>
    if v = 0 then 0
    else if o = .driver then max l.bandMin (min l.bandMax (max 100 (min 300 v)))
    else max 100 (min 300 v)
  | .offset => if o = .driver then max (-30) (min 30 v) else max (-80) (min 80 v)
  | .floor => max 0 (min 150 v)
  | .cap => max 0 (min 100 v)
  | .vent => max 0 (min 7 v)
  | .screen => max 0 (min 2 v)

/-- The record a PLACE stores: R25's adjustments, R24's and R27's clamps, a DRIVER's persist forced to no. -/
def storedOrder (l : LimitsRec) (o : Origin) (r : OrderRec) : OrderRec :=
  { r with
    zones := if r.kind = .screen then 0 else r.zones
    value := heldValue l o r.kind r.value
    onTime := if r.mode = .pulse then r.onTime else 0
    persist := r.persist && decide (o ≠ .driver) }

/-! ### Who takes part in resolution (R52) -/

/-- The order in slot k takes part in zone z with an order of this kind (R52). -/
abbrev takesPartIn (slots : Vector Slot 64) (kind : Kind) (z : ZoneId) (k : SlotId) (o : OrderRec) : Prop :=
  ∃ e, (Tab.get slots k).entry = some e ∧ e.ord = o ∧ (e.live.state = .inForce ∨ e.live.state = .tailing) ∧
    o.kind = kind ∧ hasZone o.zones z = true

/-- The order in slot k takes part in the screen level (R52). -/
abbrev takesPartInScreen (slots : Vector Slot 64) (k : SlotId) (o : OrderRec) : Prop :=
  ∃ e, (Tab.get slots k).entry = some e ∧ e.ord = o ∧ (e.live.state = .inForce ∨ e.live.state = .tailing) ∧
    o.kind = .screen

/-- The rank of a source by the table of R52; one that is not in it comes last. -/
abbrev rankOf (x : Source) : Nat := [Source.service, .driver, .fleet, .depot].idxOf x

/-- The order in slot k wins zone z for a kind resolved by rank: the lowest rank, then the lower slot (R53, R57). -/
abbrev wins (slots : Vector Slot 64) (kind : Kind) (z : ZoneId) (k : SlotId) (o : OrderRec) : Prop :=
  takesPartIn slots kind z k o ∧
    ∀ k' o', takesPartIn slots kind z k' o' →
      rankOf o.source < rankOf o'.source ∨ (rankOf o.source = rankOf o'.source ∧ k ≤ k')

/-! ### Malformed frames (R182) -/

/-- The payload lengths that the table of R182 allows for a code; for CONFIGURE by the record kind, which is the first
payload byte (R185). -/
def lengthAllowed (code : Byte) (payload : List Byte) : Bool :=
  let n := payload.length
  match code.toNat with
  | 0x00 | 0x15 | 0x22 | 0x23 | 0x32 | 0x53 | 0x60 => n == 0
  | 0x10 => n == 14
  | 0x11 => n == 16
  | 0x12 | 0x13 | 0x14 | 0x31 => n == 2
  | 0x20 | 0x21 | 0x24 | 0x25 | 0x26 | 0x34 | 0x41 | 0x50 | 0x51 | 0x52 | 0x61 => n == 1
  | 0x30 => n == 9
  | 0x33 => n == 3
  | 0x42 => n == 0 || n == 2
  | 0x40 =>
    match payload with
    | kind :: _ :: _ =>
      match kind.toNat with
      | 0 => n == 24
      | 1 | 7 => n == 16
      | 2 | 6 => n == 12
      | 3 | 4 => n == 10
      | 5 => n == 22
      | _ => true
    | _ => false
  | _ => false

/-- The frame received is well formed by R182: three header bytes, an origin of 0 to 3, a code of the table, a length the
table allows for it, and n payload bytes among the 31 received. -/
def frameGood (bytes : List Byte) : Bool :=
  match bytes.take 31 with
  | code :: origin :: n :: rest =>
    decide (origin.toNat ≤ 3) && decide (n.toNat ≤ rest.length) && lengthAllowed code (rest.take n.toNat)
  | _ => false

/-! ### The reserved slots (R20, R46 to R48) -/

/-- Slot 56 + d is in use exactly while doorway d is HELD, and then holds its cap order, whose handle the doorway keeps
(R46, R104). -/
def capSlotSound (s : State) (d : DoorId) : Bool :=
  match (s.slot (capSlot d)).entry with
  | some e =>
    decide ((s.door d).state = .held ∧ e.ord = { s.capRec d with value := e.ord.value } ∧
      (s.door d).capHandle = some (s.slot (capSlot d)).gen)
  | none => decide ((s.door d).state ≠ .held ∧ (s.door d).capHandle = none)

/-- Slot 62 holds the automatic screen order, at generation 0 (R47). -/
def screenSlotSound (s : State) : Bool :=
  match (s.slot screenSlot).entry with
  | none => false
  | some e =>
    decide ((s.slot screenSlot).gen = 0 ∧ e.ord.source = .screen ∧ e.ord.kind = .screen ∧ e.ord.zones = 0 ∧
      e.ord.select = 0x2000 ∧ e.ord.sense = .whenTrue ∧ e.ord.mode = .tail ∧ e.ord.persist = true)

/-- Slot 63 holds the base floor order, at generation 0 (R48). -/
def baseSlotSound (s : State) : Bool :=
  match (s.slot baseSlot).entry with
  | none => false
  | some e =>
    decide ((s.slot baseSlot).gen = 0 ∧ e.ord.source = .base ∧ e.ord.kind = .floor ∧ e.ord.zones = 0xFF ∧
      e.ord.select = 0 ∧ e.ord.sense = .whenTrue ∧ e.ord.mode = .standing ∧ e.ord.persist = true)

/-- The reserved slots hold what R20 and R46 to R48 say. -/
abbrev SlotsSound (s : State) : Prop := (∀ d, capSlotSound s d = true) ∧ screenSlotSound s = true ∧ baseSlotSound s = true

/-- The orders of slots 0 to 55 are host orders that their source may place: of a kind that the table of R26 gives the
source (which gives FLEET no SCREEN, assumption 37), a DRIVER order's persist flag no (R27), a DEPOT order STANDING or
COUNTDOWN (R28). -/
def hostSlotSound (s : State) (k : SlotId) : Bool :=
  match (s.slot k).entry with
  | none => true
  | some e =>
    match e.ord.source with
    | .service => true
    | .fleet => decide (e.ord.kind ≠ .screen)
    | .driver => decide (e.ord.kind ≠ .floor ∧ e.ord.kind ≠ .cap ∧ e.ord.persist = false)
    | .depot =>
      decide ((e.ord.kind = .hold ∨ e.ord.kind = .floor ∨ e.ord.kind = .vent) ∧
        (e.ord.mode = .standing ∨ e.ord.mode = .countdown))
    | .doorway | .screen | .base => false

/-- Every order in slots 0 to 55 is one its source may have placed. -/
abbrev HostOrdersSound (s : State) : Prop := ∀ k : SlotId, k.val < 56 → hostSlotSound s k = true

/-- R24's range of a stored value, by kind. -/
def valueInRange (k : Kind) (v : Int) : Bool :=
  match k with
  | .hold => decide (v = 0 ∨ (100 ≤ v ∧ v ≤ 300))
  | .offset => decide (-80 ≤ v ∧ v ≤ 80)
  | .floor => decide (0 ≤ v ∧ v ≤ 150)
  | .cap => decide (0 ≤ v ∧ v ≤ 100)
  | .vent => decide (0 ≤ v ∧ v ≤ 7)
  | .screen => decide (0 ≤ v ∧ v ≤ 2)

/-- The fields of an order lie in R22's and R24's ranges. -/
abbrev OrderRec.inRange (o : OrderRec) : Prop :=
  valueInRange o.kind o.value = true ∧ (1 ≤ o.count ∧ o.count ≤ 65536) ∧ o.onTime ≤ 65535

/-- The live fields of an order lie in R23's ranges. -/
abbrev OrderLive.inRange (l : OrderLive) : Prop := l.remaining ≤ 65536 ∧ l.period ≤ 65536 ∧ l.offTime ≤ 65535

/-- The order in a slot, and its latched copy, lie in their ranges. -/
def slotInRange (s : State) (k : SlotId) : Bool :=
  match (s.slot k).entry with
  | none => true
  | some e =>
    decide (e.ord.inRange ∧ e.live.inRange) &&
      match e.latch with
      | none => true
      | some copy => decide (copy.1.inRange ∧ copy.2.inRange)

/-- Every order in use lies in its ranges (R22 to R24). -/
abbrev OrdersInRange (s : State) : Prop := ∀ k, slotInRange s k = true

/-! ### Lifetimes and resolution (R37 to R41, R45, R63) -/

/-- The state fits the lifetime mode and the condition value held (R38 to R41). -/
def stateFits (mode : Lifetime) (holds : Bool) (x : OrderState) : Bool :=
  match mode, holds with
  | .standing, true | .countdown, true | .tail, true => decide (x = .inForce)
  | .pulse, true => decide (x = .inForce ∨ x = .resting)
  | .standing, false | .countdown, false | .pulse, false => decide (x = .waiting)
  | .tail, false => decide (x = .waiting ∨ x = .tailing)

/-- The order in a slot holds the value its condition has in the condition word as it stands, and its state fits it. -/
def orderSound (s : State) (k : SlotId) : Bool :=
  match (s.slot k).entry with
  | none => true
  | some e =>
    decide (e.live.holds = conditionHolds s.orders.cond e.ord) && stateFits e.ord.mode e.live.holds e.live.state

/-- Every order in use is in the state its condition gives it. -/
abbrev OrdersSound (s : State) : Prop := ∀ k, orderSound s k = true

/-- Every target record and the screen level are what resolution gives from the orders, the mode and the zone records as
they stand: no event leaves a target behind (R63). -/
abbrev TargetsCurrent (s : State) : Prop :=
  (∀ z, s.target z = resolvedTarget (inForceOrders s.orders.slots) s.orders.mode (s.zoneRec z) z) ∧
    s.orders.level = resolvedLevel (inForceOrders s.orders.slots)

/-! ### Zones (R82, R86, R90, R100) -/

/-- The integrator and the demand lie in -1000 to 1000, the fresh-air demand is that of the demand and of the minimum the
zone has read (R95), and an INACTIVE zone asks nothing and drives nothing. -/
abbrev RegulatorSound (r : Regulator) : Prop :=
  (-1000 ≤ r.i ∧ r.i ≤ 1000) ∧ (-1000 ≤ r.u ∧ r.u ≤ 1000) ∧ r.fresh = freshDemand r.freshRead r.u ∧
    (r.state = .inactive → r.i = 0 ∧ r.u = 0 ∧ r.request = 0 ∧ r.duty = 0 ∧ r.fan = 0)

/-- Every zone's regulator record is sound. -/
abbrev RegulatorsSound (s : State) : Prop := ∀ z, RegulatorSound (s.reg z)

/-! ### Doorways (R104 to R111) -/

/-- The timers of a doorway run where R104 says, a HELD, OPEN or FAULT doorway is one whose accepted input is open, and
tail remaining is 0 outside TAIL. -/
abbrev DoorSound (moving noHold : Bool) (x : Door) : Prop :=
  (x.debounceTimer.isSome ↔ x.raw ≠ x.accepted) ∧
  (x.accepted = true ↔ x.state = .opened ∨ x.state = .held ∨ x.state = .fault) ∧
  (x.holdTimer.isSome → x.state = .opened) ∧
  (noHold = true → x.holdTimer = none) ∧
  (x.tailTimer.isSome ↔ x.state = .tail) ∧
  (x.state ≠ .tail → x.tailRemaining = 0) ∧
  (x.faultTimer.isSome ↔ (x.state = .opened ∨ x.state = .held) ∧ moving = true)

/-- Every doorway is sound. -/
abbrev DoorsSound (s : State) : Prop := ∀ d, DoorSound s.mon.moving (s.doorRec d).noHold (s.door d)

/-! ### Supply (R138 to R148) -/

/-- The timers of the Supply Monitor run where R138 says, and a received allowance is held exactly once one has been
received. -/
abbrev SupplySound (s : State) : Prop :=
  (s.supply.gapHoldTimer.isSome ↔ s.supply.state = .gap) ∧
  (s.supply.pregapTimer.isSome ↔ s.supply.state = .pregap) ∧
  (s.supply.confirmTimer.isSome → s.supply.state = .gap ∨ s.supply.state = .battery) ∧
  (s.supply.allowanceTimer.isSome ↔ s.supply.status = .current) ∧
  (s.supply.received = none ↔ s.supply.status = .neverReceived)

/-! ### Banks (R164 to R170) -/

/-- The live fields of a bank in each state, with `work` saying whether the bank has work: each timer runs in its own
state, the ramp position is 0 outside CLOSED, the idle timer runs in CLOSED without work, and the third fault locks. -/
abbrev BankSound (work : Bool) (x : Bank) : Prop :=
  (x.prechargeTimer.isSome ↔ x.state = .precharge) ∧
  (x.openingTimer.isSome ↔ x.state = .opening) ∧
  (x.rampTimer.isSome ↔ x.state = .closed ∧ x.ramp < 8) ∧
  (x.idleTimer.isSome ↔ x.state = .closed ∧ work = false) ∧
  (x.state ≠ .closed → x.ramp = 0) ∧ x.ramp ≤ 8 ∧ x.faults ≤ 3 ∧ (x.faults = 3 → x.state = .locked)

/-- In supply state BATTERY no bank is CLOSED or HOLD (R167); CLOSED is a state of LINE, HOLD of PREGAP and GAP. -/
abbrev BankSupplied (x : Bank) : Prop :=
  (x.state = .closed → x.supply = .line) ∧ (x.state = .hold → x.supply = .pregap ∨ x.supply = .gap)

/-- Every bank is sound and supplied as its state says. -/
abbrev BanksSound (s : State) : Prop := ∀ b, BankSound (s.hasWork b) (s.bank b) ∧ BankSupplied (s.bank b)

/-! ### Output channels (R10, R175, R176) -/

/-- A channel of type NONE holds duty 0, and a channel is overheated only on a reading of its surface sensor. -/
abbrev ChanSound (type : ChanType) (x : Chan) : Prop :=
  (type = .none → x.duty = 0) ∧ (x.overheated = true → x.surface ≠ .noSensor ∧ x.surface ≠ .lost)

/-- Every output channel is sound. -/
abbrev ChansSound (s : State) : Prop := ∀ c, ChanSound (s.chanRec c).type (s.chan c)

/-! ### The Link Port (R18, R19, R181, R183, R191) -/

/-- The port's buffers and positions lie in their ranges. -/
abbrev LinkSound (s : State) : Prop :=
  s.link.rx.length ≤ 31 ∧ s.link.reply.payload.length ≤ 96 ∧
    s.link.readPos ≤ 3 + s.link.reply.payload.length ∧ s.link.curvePtr ≤ 16

/-! ### The cabin map (R1 to R19) -/

abbrev ZoneRec.inRange (z : ZoneId) (r : ZoneRec) : Prop :=
  (z = 0 → r.sect = .a) ∧ (100 ≤ r.setpoint ∧ r.setpoint ≤ 300) ∧ (50 ≤ r.bandMin ∧ r.bandMin ≤ r.bandMax) ∧
    (160 ≤ r.bandMax ∧ r.bandMax ≤ 300) ∧ r.kp ≤ 500 ∧ r.ki ≤ 255 ∧ r.kf ≤ 100 ∧ r.kd ≤ 50 ∧ r.ko ≤ 50 ∧
    r.minFresh ≤ 100 ∧ (1 ≤ r.interval ∧ r.interval ≤ 10)

abbrev DoorRec.inRange (r : DoorRec) : Prop :=
  r.zones ≠ 0 ∧ (50 ≤ r.debounce ∧ r.debounce ≤ 1000) ∧ (5 ≤ r.tail ∧ r.tail ≤ 120) ∧ (30 ≤ r.hold ∧ r.hold ≤ 600) ∧
    r.cap ≤ 100 ∧ (1 ≤ r.faultDelay ∧ r.faultDelay ≤ 30)

/-- The type suits the channel: CONVECTOR and CURTAIN on a bank channel, SCREEN and MIRROR on an AUX channel (R8). -/
def typeSuits (c : ChanId) : ChanType → Bool
  | .none => true
  | .convector _ | .curtain _ => decide (c.val < 32)
  | .screen | .mirror => decide (32 ≤ c.val)

abbrev ChanRec.inRange (c : ChanId) (r : ChanRec) : Prop :=
  typeSuits c r.type = true ∧ r.rated ≤ 100 ∧ r.group ≤ 7 ∧ (200 ≤ r.limit ∧ r.limit ≤ 2000) ∧
    (r.type = .none → r.enabled = false)

abbrev SensorRec.inRange (r : SensorRec) : Prop := (5 ≤ r.hold ∧ r.hold ≤ 300) ∧ (1 ≤ r.run ∧ r.run ≤ 8)

abbrev BankRec.inRange (r : BankRec) : Prop :=
  (100 ≤ r.precharge ∧ r.precharge ≤ 2000) ∧ (100 ≤ r.opening ∧ r.opening ≤ 1000) ∧ (10 ≤ r.idle ∧ r.idle ≤ 600) ∧
    (50 ≤ r.ramp ∧ r.ramp ≤ 2000)

abbrev SupplyRec.inRange (r : SupplyRec) : Prop :=
  (200 ≤ r.low ∧ r.low ≤ 800) ∧ (500 ≤ r.high ∧ r.high ≤ 1000) ∧ r.low < r.high ∧
    (100 ≤ r.confirm ∧ r.confirm ≤ 5000) ∧ (1 ≤ r.gapHold ∧ r.gapHold ≤ 30) ∧ (2 ≤ r.pregap ∧ r.pregap ≤ 60) ∧
    r.lineMax ≤ 1200 ∧ r.parkLimit ≤ 1200 ∧ (1 ≤ r.timeout ∧ r.timeout ≤ 10) ∧ r.fallback ≤ r.lineMax ∧ r.aux ≤ 100

abbrev ScreenRec.inRange (r : ScreenRec) : Prop :=
  (10 ≤ r.risk ∧ r.risk ≤ 200) ∧ (0 ≤ r.fog ∧ r.fog ≤ 100) ∧ r.fog < r.risk ∧ (5 ≤ r.hyst ∧ r.hyst ≤ 50) ∧
    (-100 ≤ r.ice ∧ r.ice ≤ 100) ∧ (10 ≤ r.dwell ∧ r.dwell ≤ 600)

abbrev LimitsRec.inRange (r : LimitsRec) : Prop :=
  (100 ≤ r.bandMin ∧ r.bandMin ≤ r.bandMax) ∧ r.bandMax ≤ 300 ∧ (-200 ≤ r.frost ∧ r.frost ≤ 100) ∧
    (100 ≤ r.warm ∧ r.warm ≤ 350) ∧ (0 ≤ r.floor ∧ r.floor ≤ 150) ∧ (100 ≤ r.scan ∧ r.scan ≤ 2000)

/-- The types that one channel alone may have (R8). -/
def ChanType.isUnique : ChanType → Bool
  | .curtain _ | .screen => true
  | .none | .convector _ | .mirror => false

/-- No two channels are one doorway's curtain, and no two AUX channels are the screen heater (R8). -/
abbrev ChansUnique (s : State) : Prop :=
  ∀ c c', (s.chanRec c).type = (s.chanRec c').type → (s.chanRec c).type.isUnique = true → c = c'

/-- The eight kinds of record lie in their ranges, one test per kind. -/
def recordsInRange (s : State) : Bool :=
  decide (∀ z, (s.zoneRec z).inRange z) && decide (∀ d, (s.doorRec d).inRange) && decide (∀ c, (s.chanRec c).inRange c) &&
    decide (∀ k, (s.sensorRec k).inRange) && decide (∀ b, (s.bankRec b).inRange) && decide s.cfg.supply.inRange &&
    decide s.cfg.screen.inRange && decide s.cfg.limits.inRange

/-- Every configuration record and curve entry lies in its range, and the structural and cross-field checks of each
record hold (R1 to R19). -/
abbrev CabinMapSound (s : State) : Prop :=
  recordsInRange s = true ∧ ChansUnique s ∧ ∀ k : Fin 16, Tab.get s.cfg.curve k ≤ 1000

/-! ### A sound run -/

/-- The figures that the blocks post on lie in their ranges: a zone's Pinst, duty, fan level, fresh-air demand, and the
fan order and minimum fresh air it read (R82, R83); the cap and the fan order of a target (R51); a doorway's duty and
its tail, which counts down from its length (R104); the last value of a sensor channel with a role, and To (R67, R72,
R77); and what the Allocator has recorded of its members (R157). -/
abbrev FiguresInRange (s : State) : Prop :=
  (∀ z, (s.reg z).pinst ≤ 3200 ∧ (s.reg z).duty ≤ 1000 ∧ (s.reg z).fan ≤ 7 ∧ (s.reg z).fresh ≤ 100 ∧
    (s.reg z).fanRead ≤ 7 ∧ (s.reg z).freshRead ≤ 100) ∧
  (∀ z, (s.target z).cap ≤ 100 ∧ (s.target z).fanOrder ≤ 7) ∧
  (∀ d, (s.door d).duty ≤ 1000 ∧ (s.door d).tailRemaining ≤ (s.door d).tailLength) ∧
  (∀ k, (s.sensorRec k).role ≠ .unused → (s.sensorRec k).role.inRange (s.sensor k).last = true) ∧
  (-500 ≤ s.scan.tOut ∧ s.scan.tOut ≤ 850) ∧
  (∀ z, (Tab.get s.alloc.zones z).request ≤ 3200 ∧ (Tab.get s.alloc.zones z).avail ≤ 3200) ∧
  (∀ d, (Tab.get s.alloc.curtains d).request ≤ 100 ∧ (Tab.get s.alloc.curtains d).avail ≤ 100) ∧
  ∀ a, (Tab.get s.alloc.aux a).request ≤ 100 ∧ (Tab.get s.alloc.aux a).avail ≤ 100

/-- The commands and the postings that wait are well formed. -/
abbrev QueuesWellFormed (s : State) : Prop :=
  (∀ c ∈ s.pending, WellFormed c = true) ∧ ∀ c ∈ s.posts, WellFormed c = true

/-- A sound machine: its queues are well formed, and its records, orders, zones and figures lie in their ranges. -/
abbrev Sound (s : State) : Prop :=
  QueuesWellFormed s ∧ CabinMapSound s ∧ SlotsSound s ∧ OrdersInRange s ∧ RegulatorsSound s ∧ FiguresInRange s

/-- A step that answers a next state: no fault and no refusal. -/
abbrev completes (o : Host.Outcome State Fault Refusal) : Prop := ∃ t, o = .next t

end Sys2Proof.Machine
end

