-- ==== Sys2Proof/Certificates/Slice0/Obligations.lean ====
section
/-! DEFINITION. The statements for the provers. `s.taken code h payload` is the state once the bytes of a frame's
transaction are clocked, `reply` puts the reply into the buffer; `exec c s = .next t` with `t` written as an update of `s`
says the command's result and its frame at once. -/

open Sys2Proof Sys2Proof.Machine

/-! ### The step, and what every command keeps -/

/-- The step takes the command at the front of the queue and answers what `exec` answers on the queue's rest. -/
def Obligations.StepTakesFront : Prop :=
  ∀ (c : Instr) (rest : List Instr) (s : State), s.pending = c :: rest → step s = exec c { s with pending := rest }

/-- With no command waiting the step takes the oldest posting, but the first duty posting waiting behind the Bank
Controller's RESTART before that RESTART; with neither, the part's own next event: the conversion a running pass makes
next, with AINk as the pin stands, else an event due no later than every other. What is due is the time base's boundary,
the 20 ms reading of VLINE and BATLOW as the pins stand, and the expiry of every timer that runs, at its time. The order
among commands, postings and the part's own events is the model's choice (log entries 1 and 2). -/
def Obligations.StepTakesPostingThenOwnEvent : Prop :=
  (∀ s : State, s.pending = [] →
     (∀ p rest, s.posts = p :: rest → (p = .bankControllerRestart → ∀ c x, .dutyPosting c x ∉ rest) →
       step s = exec p { s with posts := rest }) ∧
     (∀ before c x after, s.posts = .bankControllerRestart :: (before ++ .dutyPosting c x :: after) →
       (∀ c' x', .dutyPosting c' x' ∉ before) →
       step s = exec (.dutyPosting c x) { s with posts := .bankControllerRestart :: (before ++ after) }) ∧
     (s.posts = [] →
       step s = exec s.ownEvent s ∧
       (∀ k rest, s.scan.pass = k :: rest → s.ownEvent = .conversionArrival k (Tab.get s.pins.ain k)) ∧
       (s.scan.pass = [] → ∃ due, (due, s.ownEvent) ∈ s.due ∧ ∀ x ∈ s.due, due ≤ x.1))) ∧
  ∀ (s : State) (e : Nat) (i : Instr), (e, i) ∈ s.due ↔
    (i = .timeBaseBoundary ∧ e = s.orders.boundary) ∨
    (i = .lineReading s.pins.vline s.pins.batLow ∧ e = s.supply.nextReading) ∨
    (i = .confirmationExpiry ∧ s.supply.confirmTimer = some e) ∨
    (i = .gapHoldExpiry ∧ s.supply.gapHoldTimer = some e) ∨
    (i = .pregapExpiry ∧ s.supply.pregapTimer = some e) ∨
    (i = .allowanceExpiry ∧ s.supply.allowanceTimer = some e) ∨
    (i = .scanExpiry ∧ s.scan.scanTimer = some e) ∨
    (∃ k, i = .refreshExpiry k ∧ (s.sensor k).refreshTimer = some e) ∨
    (∃ k, i = .sensorHoldExpiry k ∧ (s.sensor k).holdTimer = some e) ∨
    (∃ z, i = .intervalExpiry z ∧ (s.reg z).timer = some e) ∨
    (∃ d, i = .debounceExpiry d ∧ (s.door d).debounceTimer = some e) ∨
    (∃ d, i = .holdExpiry d ∧ (s.door d).holdTimer = some e) ∨
    (∃ d, i = .tailSecond d ∧ (s.door d).tailTimer = some e) ∨
    (∃ d, i = .faultExpiry d ∧ (s.door d).faultTimer = some e) ∨
    (∃ b, i = .prechargeCompletion b (Tab.get s.pins.vlink b) ∧ (s.bank b).prechargeTimer = some e) ∨
    (∃ b, i = .openingCompletion b ∧ (s.bank b).openingTimer = some e) ∨
    (∃ b, i = .rampExpiry b ∧ (s.bank b).rampTimer = some e) ∨
    ∃ b, i = .idleExpiry b ∧ (s.bank b).idleTimer = some e

/-- Every command is answered by a next state, in every state: it keeps the waiting commands, and but for POWER_ON it
adds its postings behind those that wait and never takes the clock back. Every block keeps its state but for the
commands that reach it: a command leaves each part of the state that `partsOf` does not give it as it was, so that what
it means for another block goes there by a posting. -/
def Obligations.CommandsCompleteAndKeepToTheirParts : Prop :=
  (∀ (c : Instr) (s : State), ∃ t, exec c s = .next t ∧ t.pending = s.pending ∧
     (c ≠ .powerOn → s.now ≤ t.now ∧ ∃ l, t.posts = s.posts ++ l)) ∧
  (∀ (c : Instr) (s t : State) (p : Part), exec c s = .next t → p ∉ partsOf c → p.same s t)

/-! ### The link (chapter 10) -/

/-- A command laid out as the bytes of its transaction, padded as the host likes, is read back as the same command,
with every operand at every value; a malformed frame is read as such, and no byte at all is no frame. -/
def Obligations.FramesDecodeToTheirCommand : Prop :=
  (∀ (i : Instr) (bytes : List Byte), WellFormed i = true → frameBytes i = some bytes → decodeFrame bytes = some i) ∧
    (∀ bytes : List Byte, WellFormed (.malformedFrame bytes) = true → decodeFrame bytes = some (.malformedFrame bytes)) ∧
    decodeFrame [] = none

/-- A transaction with at least one complete byte is taken as a malformed frame exactly when the test of R182 fails it:
header, origin, code, the length the table gives the code, and the bytes received. A malformed frame changes no block:
the bytes are clocked, the reply carries the code byte as received, BAD_FRAME and nothing more, and FRAME_ERROR (cause
8) joins the pending set. A transaction without a complete byte does nothing. -/
def Obligations.MalformedFramesAreRefused : Prop :=
  (∀ bytes : List Byte, bytes ≠ [] → (decodeFrame bytes = some (.malformedFrame bytes) ↔ frameGood bytes = false)) ∧
  (∀ s : State,
     exec (.malformedFrame []) s = .next s ∧
     ∀ (code : Byte) (rest : List Byte) (t : State),
       t = (s.clock (code :: rest)).reply code .badFrame [] →
         exec (.malformedFrame (code :: rest)) s =
           .next { t with link := { t.link with causes := s.link.causes ||| 0x80#8 } })

/-- In the transaction of every frame, the part receives the first 31 bytes and shifts out one byte for each byte
clocked: the reply bytes from the read position, then filler, and filler for every byte beyond the 31st. NOP leaves the
buffer, moves the read position on by the bytes it clocked out, at most to the end of the reply, and changes nothing
else but the bytes received and shifted out. The bytes of a reply are its code, its status by the list of R191, its
payload's length and its payload. Every command but NOP replaces the buffer with its code, a status and a payload, and
returns the read position to 0; a reply changes nothing else. -/
def Obligations.TransactionsShiftTheReply : Prop :=
  (∀ (i : Instr) (bytes : List Byte) (s t : State),
     frameBytes i = some bytes ∨ i = .malformedFrame bytes → bytes ≠ [] → exec i s = .next t →
       t.link.rx = bytes.take 31 ∧ t.link.tx.length = bytes.length ∧
       ∀ j, j < bytes.length → t.link.tx[j]? =
         some (if j < 31 then (s.link.reply.bytes[s.link.readPos + j]?).getD 0x00 else 0x00)) ∧
  (∀ (h : Header) (s : State),
     ∃ t, exec (.nop h) s = .next t ∧
       t = { s with link := { s.link with rx := t.link.rx, tx := t.link.tx, readPos := t.link.readPos } } ∧
       t.link.readPos = min (3 + s.link.reply.payload.length) (s.link.readPos + min 31 (3 + h.pad.length))) ∧
  (∀ r : Reply, r.payload.length ≤ 96 →
     r.bytes.length = 3 + r.payload.length ∧ r.bytes[0]? = some r.code ∧
     (r.bytes[2]?).map BitVec.toNat = some r.payload.length ∧ r.bytes.drop 3 = r.payload ∧
     (r.bytes[1]?).map BitVec.toNat = some
       (match r.status with
         | .done => 0 | .adjusted => 1 | .full => 2 | .stale => 3 | .denied => 4
         | .badField => 5 | .busy => 6 | .wrongState => 7 | .held => 8 | .badFrame => 9)) ∧
  (∀ (s : State) (code : Byte) (status : Status) (payload : List Byte),
     s.reply code status payload =
       { s with link := { s.link with reply := { code := code, status := status, payload := payload }, readPos := 0 } }) ∧
  (∀ (i : Instr) (code : Byte) (h : Header) (payload : List Byte) (s t : State),
     framePayload i = some (code, h, payload) → code ≠ 0x00 → exec i s = .next t →
       t.link.reply.code = code ∧ t.link.readPos = 0)

/-- A well-formed frame whose origin the table of R182 does not list for its code is refused DENIED, with an empty
payload, and changes nothing but the bytes and the reply at the port. -/
def Obligations.OriginsNotListedAreDenied : Prop :=
  ∀ (i : Instr) (code : Byte) (h : Header) (payload : List Byte) (s : State),
    framePayload i = some (code, h, payload) → originTaken code h.origin = false →
      exec i s = .next (s.refused code h payload .denied)

/-- CAUSE returns and removes the lowest-numbered pending cause, masked or not, and replies with its number and the
pending set as it stood; an empty set gives 0, an empty set and DONE, and nothing is removed. It is taken from every
origin, and ATTN then stands for a pending cause that is not in the mask. MASK replaces the mask, keeps the pending set
and replies with both, from FLEET and SERVICE; ATTN then stands for a pending cause outside the new mask. From DRIVER
and DEPOT it is refused DENIED. -/
def Obligations.CauseAndMaskFollowTheirRules : Prop :=
  (∀ (h : Header) (s : State),
     (s.link.causes = 0 → exec (.cause h) s = .next ((s.taken 0x60 h []).reply 0x60 .done [0, 0])) ∧
     (∀ k : Fin 8, s.link.causes.getLsbD k.val = true → (∀ j : Fin 8, j < k → s.link.causes.getLsbD j.val = false) →
       ∃ causes : Byte, (∀ j : Fin 8, causes.getLsbD j.val = (s.link.causes.getLsbD j.val && decide (j ≠ k))) ∧
         exec (.cause h) s =
           .next (({ s.taken 0x60 h [] with link := { (s.taken 0x60 h []).link with causes := causes } }).reply 0x60 .done
             [BitVec.ofNat 8 (k.val + 1), s.link.causes])) ∧
     ∀ t, exec (.cause h) s = .next t →
       (t.attn = true ↔ ∃ k : Fin 8, t.link.causes.getLsbD k.val = true ∧ t.link.mask.getLsbD k.val = false)) ∧
  (∀ (h : Header) (v : Byte) (s : State),
     if h.origin = .fleet ∨ h.origin = .service then
       ∃ t, exec (.mask h v) s = .next t ∧
         t = ({ s.taken 0x61 h [v] with link := { (s.taken 0x61 h [v]).link with mask := v } }).reply 0x61 .done
           [v, s.link.causes] ∧
         (t.attn = true ↔ ∃ k : Fin 8, s.link.causes.getLsbD k.val = true ∧ v.getLsbD k.val = false)
     else exec (.mask h v) s = .next (s.refused 0x61 h [v] .denied))

/-- VEHICLE from FLEET or SERVICE: a flag byte with an upper bit set is BAD_FIELD; else the whole status is replaced,
the occupancies limited to 250 with ADJUSTED where one was above it, the flags posted to the Order Table and the moving
flag to the Doorway Monitor, and the status replied as stored. RESTART from FLEET or SERVICE: the pending set is
emptied, the curve pointer becomes 0, every block is posted its RESTART, then the vehicle status held is posted again;
the mask, the vehicle status and every other block stay as they are in this event. The postings of each are made in the
order of the rule's list (log entry 17), but that the Sensor Scanner's RESTART follows the other blocks' (R81). -/
def Obligations.VehicleAndRestartArePosted : Prop :=
  (∀ (h : Header) (v : VehicleBytes) (s : State), h.origin = .fleet ∨ h.origin = .service →
     let u := s.taken 0x30 h v.bytes
     if 16 ≤ v.flags.toNat then exec (.vehicle h v) s = .next (u.reply 0x30 .badField [])
     else
       ∃ x : VehicleStatus, x.moving = v.flags.getLsbD 0 ∧ x.stopped = v.flags.getLsbD 1 ∧ x.depot = v.flags.getLsbD 2 ∧
         x.night = v.flags.getLsbD 3 ∧ (∀ z : ZoneId, Tab.get x.occupancy z = min 250 (Tab.get v.occupancy z).toNat) ∧
         ∃ occupancies : List Byte, occupancies = (List.finRange 8).map (fun z => BitVec.ofNat 8 (Tab.get x.occupancy z)) ∧
           exec (.vehicle h v) s =
             .next ((({ u with link := { u.link with vehicle := x } }).post
               [.conditionPosting (.vehicle x.moving x.stopped x.depot x.night), .movingFlagPosting x.moving]).reply
               0x30 (if ∃ z : ZoneId, 250 < (Tab.get v.occupancy z).toNat then .adjusted else .done)
               (v.flags :: occupancies))) ∧
  (∀ (h : Header) (s : State), h.origin = .fleet ∨ h.origin = .service →
     let u := s.taken 0x53 h []
     let v := s.link.vehicle
     exec (.restart h) s =
       .next ((({ u with link := { u.link with causes := 0, curvePtr := 0 } }).post
           [.orderTableRestart, .zoneRegulatorRestart 0, .zoneRegulatorRestart 1, .zoneRegulatorRestart 2,
             .zoneRegulatorRestart 3, .zoneRegulatorRestart 4, .zoneRegulatorRestart 5, .zoneRegulatorRestart 6,
             .zoneRegulatorRestart 7, .doorwayMonitorRestart, .screenControllerRestart, .supplyMonitorRestart,
             .allocatorRestart, .bankControllerRestart, .sensorScannerRestart,
             .conditionPosting (.vehicle v.moving v.stopped v.depot v.night), .movingFlagPosting v.moving]).reply
         0x53 .done []))

/-- CURVE_POINTER from FLEET or SERVICE: a value of 0 to 15 becomes the pointer and the reply is DONE, a greater one is
BAD_FIELD; from any other origin DENIED. The pointer is 0 at power-on and after RESTART, and no other command but the
two forms of CURVE_DATA changes it. CURVE_DATA: the write form stores the value clamped to 0 to 1000 at the pointer and
replies with the index and the value stored, ADJUSTED if it was clamped; the read form replies with the index and the
entry; each moves the pointer on by one. At pointer 16 both are BAD_FIELD; from DRIVER and DEPOT they are DENIED; a
refused one changes pointer and curve no more than any refused command. -/
def Obligations.CurveIsReachedByItsPointer : Prop :=
  ((∀ (h : Header) (v : Byte) (s : State),
     let u := s.taken 0x41 h [v]
     if h.origin = .fleet ∨ h.origin = .service then
       if v.toNat ≤ 15 then
         ∃ payload, exec (.curvePointer h v) s =
           .next (({ u with link := { u.link with curvePtr := v.toNat } }).reply 0x41 .done payload)
       else exec (.curvePointer h v) s = .next (u.reply 0x41 .badField [])
     else exec (.curvePointer h v) s = .next (u.reply 0x41 .denied [])) ∧
   State.reset.link.curvePtr = 0 ∧
   (∀ s t : State, exec .powerOn s = .next t → t.link.curvePtr = 0) ∧
   (∀ (h : Header) (s t : State), h.origin = .fleet ∨ h.origin = .service → exec (.restart h) s = .next t →
     t.link.curvePtr = 0) ∧
   ∀ (c : Instr) (s t : State), exec c s = .next t → t.link.curvePtr ≠ s.link.curvePtr →
     (∃ h v, c = .curvePointer h v) ∨ (∃ h v, c = .curveDataWrite h v) ∨ (∃ h, c = .curveDataRead h) ∨
       (∃ h, c = .restart h) ∨ c = .powerOn) ∧
  ((∀ (h : Header) (v : Word) (s : State),
     let u := s.taken 0x42 h [v.hi, v.lo]
     let stored := (max 0 (min 1000 v.toInt)).toNat
     if h.origin = .fleet ∨ h.origin = .service then
       if p : s.link.curvePtr < 16 then
         exec (.curveDataWrite h v) s =
           .next (({ u with
             cfg := { s.cfg with curve := s.cfg.curve.set s.link.curvePtr stored p }
             link := { u.link with curvePtr := s.link.curvePtr + 1 } }).reply 0x42
             (if v.toInt < 0 ∨ 1000 < v.toInt then .adjusted else .done)
             (bytesOfWords [BitVec.ofNat 16 s.link.curvePtr, BitVec.ofNat 16 stored]))
       else exec (.curveDataWrite h v) s = .next (u.reply 0x42 .badField [])
     else exec (.curveDataWrite h v) s = .next (u.reply 0x42 .denied [])) ∧
   ∀ (h : Header) (s : State),
     let u := s.taken 0x42 h []
     if h.origin = .fleet ∨ h.origin = .service then
       if p : s.link.curvePtr < 16 then
         exec (.curveDataRead h) s =
           .next (({ u with link := { u.link with curvePtr := s.link.curvePtr + 1 } }).reply 0x42 .done
             (bytesOfWords [BitVec.ofNat 16 s.link.curvePtr, BitVec.ofNat 16 (s.cfg.curve[s.link.curvePtr]'p)]))
       else exec (.curveDataRead h) s = .next (u.reply 0x42 .badField [])
     else exec (.curveDataRead h) s = .next (u.reply 0x42 .denied []))

/-- The readouts change nothing but the bytes and the reply at the port: a number that names no object is BAD_FIELD, and
else the reply is DONE with one word, most significant byte first, for each field that its rule names, in that order.
READ_ZONE carries the target record, the regulator record, Ta, To, the stale flag and the occupancy. Numbers are in
two's complement, enumerations the position in the rule's list, flags 1 for yes, what is absent is -32768, and a timer
the time left, rounded up, in ms or where the rule says so in seconds, -1 when stopped. What R185 leaves open in these
words is settled by log entries 10 and 11. -/
def Obligations.ReadoutsChangeNothing : Prop :=
  (∀ ws : List Word, (bytesOfWords ws).map BitVec.toNat = ws.flatMap fun w => [w.toNat / 256, w.toNat % 256]) ∧
  ∀ (h : Header) (n : Byte) (s : State),
    let num (x : Int) : Word := BitVec.ofInt 16 x
    let opt (x : Option Int) : Word := match x with | some v => num v | none => num (-32768)
    let flag (b : Bool) : Word := if b then 1 else 0
    let ms (t : Timer) : Word := match t with | some e => num ((e - s.now : Nat)) | none => num (-1)
    let sec (t : Timer) : Word := match t with | some e => num (((e - s.now + 999) / 1000 : Nat)) | none => num (-1)
    let supply (x : SupplyState) : Word := num ([SupplyState.line, .pregap, .gap, .battery].idxOf x)
    (let u := s.taken 0x20 h [n];
      (∀ z : ZoneId, n.toNat = z.val →
        let t := s.target z
        let r := s.reg z
        exec (.readZone h n) s = .next (u.reply 0x20 .done (bytesOfWords
          [num ([Activity.active, .inactive].idxOf t.activity), opt t.ts,
            match t.hold with | .off => num 0 | .setpoint x => num x,
            match t.holdOrigin with | .slot k => num k.val | .default => num (-1) | .parked => num (-2),
            num t.offset, opt t.floor, num t.cap, num t.fanOrder, opt (t.fanOrigin.map fun k => (k.val : Int)),
            num ([RegState.starting, .regulating, .noSensor, .inactive].idxOf r.state), opt r.e, num r.p, num r.i,
            num r.f, num r.d, num r.g, num r.uRaw, num r.u, flag r.limitedLow, flag r.highBound, flag r.shortfall,
            flag (r.highBound || r.shortfall), num r.pinst, num r.request, num r.grant, num r.duty, num r.fan,
            num r.fresh, ms r.timer, opt (s.ta z), num s.scan.tOut, flag s.scan.stale,
            num (Tab.get s.link.vehicle.occupancy z : Nat)]))) ∧
      (8 ≤ n.toNat → exec (.readZone h n) s = .next (u.reply 0x20 .badField []))) ∧
    (let u := s.taken 0x21 h [n];
      (∀ d : DoorId, n.toNat = d.val →
        let x := s.door d
        exec (.readDoorway h n) s = .next (u.reply 0x21 .done (bytesOfWords
          ([num ([DoorState.closed, .opened, .tail, .held, .fault].idxOf x.state), num (if x.raw then 0 else 1),
            num (if x.accepted then 0 else 1), ms x.debounceTimer, sec x.holdTimer, sec x.faultTimer,
            num x.tailRemaining, num x.tailLength, opt ((s.curtainChan d).map fun c => (c.val : Int)), num x.request,
            num x.grant, num x.duty,
            match x.capHandle with | some g => num (256 * (56 + d.val) + g.toNat) | none => num (-32768)] ++
          ((List.finRange 8).filter fun z => hasZone (s.doorRec d).zones z).map fun z => num (s.draftTerm d z))))) ∧
      (6 ≤ n.toNat → exec (.readDoorway h n) s = .next (u.reply 0x21 .badField []))) ∧
    (let u := s.taken 0x24 h [n];
      (∀ b : BankId, n.toNat = b.val →
        let x := s.bank b
        exec (.readBank h n) s = .next (u.reply 0x24 .done (bytesOfWords
          [num ([BankState.opened, .precharge, .closed, .hold, .opening, .fault, .locked].idxOf x.state), num x.ramp,
            ms x.prechargeTimer, ms x.openingTimer, ms x.rampTimer, sec x.idleTimer, flag x.ocRecorded,
            flag x.restartPending, num ([OpeningOutcome.opened, .fault, .locked].idxOf x.outcome), num x.faults,
            supply x.supply, flag (s.kpre b), flag (s.kmain b), flag (Tab.get s.pins.oc b), num x.lastLink,
            flag (s.hasWork b)]))) ∧
      (4 ≤ n.toNat → exec (.readBank h n) s = .next (u.reply 0x24 .badField []))) ∧
    (let u := s.taken 0x25 h [n];
      (∀ c : ChanId, n.toNat = c.val →
        let r := s.chanRec c
        let x := s.chan c
        exec (.readChannel h n) s = .next (u.reply 0x25 .done (bytesOfWords
          [match r.type with
            | .none => num 0 | .convector z => num (256 + z.val) | .curtain d => num (512 + d.val)
            | .screen => num 768 | .mirror => num 1024,
            num r.rated, num r.group, num r.limit, flag r.enabled,
            opt (((List.finRange 32).find? fun k => decide ((s.sensorRec k).role = .surface c)).map fun k => (k.val : Int)),
            match x.surface with | .reading v => num v | .noSensor | .lost => num (-32768),
            num ([ChanState.disabled, .masked, .live].idxOf (s.chanState c)),
            if s.chanState c = .masked then num (s.maskReasons c) else 0, flag x.overheated, num x.duty,
            num (s.drivenDuty c)]))) ∧
      (36 ≤ n.toNat → exec (.readChannel h n) s = .next (u.reply 0x25 .badField []))) ∧
    (let u := s.taken 0x26 h [n];
      (∀ k : SensorId, n.toNat = k.val →
        let r := s.sensorRec k
        let x := s.sensor k
        exec (.readSensor h n) s = .next (u.reply 0x26 .done (bytesOfWords
          [match r.role with
            | .unused => num 0 | .lineUnused => num 256 | .zoneAir z => num (512 + z.val)
            | .surface c => num (768 + c.val) | .outside => num 1024 | .glass => num 1280 | .cabHumidity => num 1536,
            num ([SensorOrigin.internal, .external].idxOf r.origin),
            num ([SensorState.valid, .suspect, .lost].idxOf x.state), num x.last, num x.count]))) ∧
      (32 ≤ n.toNat → exec (.readSensor h n) s = .next (u.reply 0x26 .badField []))) ∧
    (let x := s.screen
      let figures (a : AuxId) : List Word :=
        [num (32 + a.val), num (s.heater a).request, num (s.heater a).grant, num (s.heater a).duty]
      exec (.readScreen h) s = .next ((s.taken 0x22 h []).reply 0x22 .done (bytesOfWords
        ([num ([Watch.clear, .risk, .fog, .ice, .unknown].idxOf x.watch), flag x.initial, opt x.ta0, num x.tOut,
          flag x.stale, opt x.glass, opt x.humidity, opt x.tdew, opt x.margin, num x.level, num x.blower, flag x.dir,
          num x.flap] ++
        (match s.screenHeater with | some a => figures a | none => [num (-32768), 0, 0, 0]) ++
        ((List.finRange 4).filter fun a => decide ((s.chanRec (auxChan a)).type = .mirror)).flatMap figures)))) ∧
    (let x := s.supply
      let left (t : Timer) : Word := sec t
      exec (.readSupply h) s = .next ((s.taken 0x23 h []).reply 0x23 .done (bytesOfWords
        [supply x.state, num x.lastReading, ms x.confirmTimer,
          if x.gapHoldTimer = none then left x.pregapTimer else left x.gapHoldTimer,
          opt (x.received.map Int.ofNat),
          num ([AllowanceStatus.neverReceived, .current, .lapsed].idxOf x.status), ms x.allowanceTimer, num s.figure,
          num s.lineAllowance, num (if x.lowBat then 0 else 1), num s.auxAllowance,
          num ([Mode.run, .park].idxOf x.mode)])))

/-! ### Orders (chapter 02) -/

/-- The 14 bytes of an order read as R192 gives: a kind above 5, a mode above 3 or a flag byte with any of bits 2 to 7
set is none; else the source is the origin's, and every field is the one its word or bit carries, a count of 0 standing
for 65536. The 26 bytes of READ_ORDER carry the handle, the flags, the source and the live fields where R192 puts them,
and their bytes 4 to 17, read as a PLACE record of the order's origin, give the record back. -/
def Obligations.OrderRecordsAreCarriedByR192 : Prop :=
  (∀ (o : Origin) (w : OrderWords),
     (orderOf o w = none ↔ 5 < w.kind.toNat ∨ 3 < w.mode.toNat ∨ 4 ≤ w.flags.toNat) ∧
     ∀ r, orderOf o w = some r →
       r.source = (match o with | .service => .service | .driver => .driver | .fleet => .fleet | .depot => .depot) ∧
       [Kind.hold, .offset, .floor, .cap, .vent, .screen][w.kind.toNat]? = some r.kind ∧
       [Lifetime.standing, .countdown, .tail, .pulse][w.mode.toNat]? = some r.mode ∧
       r.zones = w.zones ∧ r.value = w.value.toInt ∧ r.select = w.select ∧
       r.count = (if w.count.toNat = 0 then 65536 else w.count.toNat) ∧ r.onTime = w.onTime.toNat ∧
       (r.sense = .unlessTrue ↔ w.flags.toNat % 2 = 1) ∧ (r.persist = true ↔ 2 ≤ w.flags.toNat)) ∧
  (∀ (k : SlotId) (g : BitVec 4) (latched : Bool) (r : OrderRec) (l : OrderLive) (o : Origin),
     -32768 ≤ r.value → r.value ≤ 32767 → 1 ≤ r.count → r.count ≤ 65536 → r.onTime ≤ 65535 →
     l.remaining ≤ 65536 → l.period ≤ 65536 → l.offTime ≤ 65535 →
       let b := orderReply k g latched r l
       b.length = 26 ∧
       (∃ w, OrderWords.ofBytes ((b.drop 4).take 14) = some w ∧
         orderOf o w = some { r with
           source := match o with | .service => .service | .driver => .driver | .fleet => .fleet | .depot => .depot }) ∧
       (b.map BitVec.toNat)[0]? = some k.val ∧ (b.map BitVec.toNat)[1]? = some g.toNat ∧
       (b.map BitVec.toNat)[2]? = some ((if latched then 1 else 0) + (if l.holds then 2 else 0) +
         4 * (match l.effect with | .none => 0 | .partly => 1 | .full => 2)) ∧
       (b.map BitVec.toNat)[3]? = some (match r.source with
         | .service => 0 | .driver => 1 | .fleet => 2 | .depot => 3 | .doorway => 4 | .screen => 5 | .base => 6) ∧
       (b.map BitVec.toNat)[18]? = some (match l.state with
         | .waiting => 0 | .inForce => 1 | .tailing => 2 | .resting => 3) ∧
       (∃ x y z, (b.map BitVec.toNat).drop 19 = [x, y, z, l.period % 65536 / 256, l.period % 256, l.offTime / 256,
         l.offTime % 256] ∧ 65536 * x + 256 * y + z = l.remaining))

/-- PLACE, check by check: an enumerated field out of its values is BAD_FIELD, a missing right DENIED, a structural
fault BAD_FIELD, no free slot among 0 to 55 FULL. Else the adjusted record goes into the lowest free slot with its live
fields as R29 sets them, what it covers is resolved, and the reply is the handle, ADJUSTED where a field was adjusted.
FLEET has no right to kind SCREEN, by the table of R26, where R128 tells of such an order: the model's choice (log entry
37). -/
def Obligations.PlaceStoresTheOrder : Prop :=
  ∀ (h : Header) (w : OrderWords) (s : State),
    let u := s.taken 0x10 h w.bytes
    let limits := s.cfg.limits
    (orderOf h.origin w = none → exec (.place h w) s = .next (u.reply 0x10 .badField [])) ∧
    ∀ r, orderOf h.origin w = some r →
      (¬placeRight limits h.origin r → exec (.place h w) s = .next (u.reply 0x10 .denied [])) ∧
      (placeRight limits h.origin r → ¬wellBuilt r → exec (.place h w) s = .next (u.reply 0x10 .badField [])) ∧
      (placeRight limits h.origin r → wellBuilt r →
        ((∀ k : SlotId, k.val < 56 → (s.slot k).entry ≠ none) → exec (.place h w) s = .next (u.reply 0x10 .full [])) ∧
        ∀ k : SlotId, k.val < 56 → (s.slot k).entry = none → (∀ j : SlotId, j < k → (s.slot j).entry ≠ none) →
          let r' := storedOrder limits h.origin r
          let holds := conditionHolds s.orders.cond r'
          let live : OrderLive :=
            { state := if holds then .inForce else .waiting
              remaining := r'.count
              period := if r'.mode = .pulse then r'.count else 0
              offTime :=
                if r'.mode = .pulse then if r'.onTime = 0 then r'.count / 2 else r'.count - r'.onTime else 0
              holds := holds
              effect := .none }
          let placed : Slot := { gen := (s.slot k).gen, entry := some { ord := r', live := live, latch := none } }
          exec (.place h w) s =
            .next (((u.setSlot k placed).resolveOrder r').reply 0x10 (if r' = r then .done else .adjusted)
              [BitVec.ofNat 8 k.val, (s.slot k).gen.setWidth 8]))

/-- AMEND, check by check: a handle out of its ranges BAD_FIELD, a reserved slot DENIED, a handle that names no order
in use STALE, a source the origin has no right over DENIED, a payload whose kind, mode or PULSE figures do not fit
BAD_FIELD. Else the value (of slot 63 the value alone), the condition, the count and the on-time are stored, a
COUNTDOWN's remaining becomes the count, the condition is evaluated, what the order covers is resolved, and the reply
is the handle. An on-time carried for slot 63, which is not used, makes no ADJUSTED (log entry 13), and a COUNTDOWN starts again
from its count even where the stored values are carried (log entry 33). The zone set carried is not looked at, empty or
not (log entry 40). -/
def Obligations.AmendReplacesTheFields : Prop :=
  ∀ (h : Header) (hb : HandleBytes) (w : OrderWords) (s : State),
    let code : Byte := 0x11
    let u := s.taken code h (hb.bytes ++ w.bytes)
    (63 < hb.slot.toNat ∨ 15 < hb.gen.toNat → exec (.amend h hb w) s = .next (u.reply code .badField [])) ∧
    ∀ k : SlotId, hb.slot.toNat = k.val → hb.gen.toNat ≤ 15 →
      ((56 ≤ k.val ∧ k.val ≤ 62) ∨ (k.val = 63 ∧ h.origin ≠ .service) →
        exec (.amend h hb w) s = .next (u.reply code .denied [])) ∧
      (k.val < 56 ∨ (k.val = 63 ∧ h.origin = .service) →
        ((s.slot k).entry = none ∨ (s.slot k).gen.toNat ≠ hb.gen.toNat →
          exec (.amend h hb w) s = .next (u.reply code .stale [])) ∧
        ∀ e, (s.slot k).entry = some e → (s.slot k).gen.toNat = hb.gen.toNat →
          (e.ord.source ∉ amendable h.origin → k.val ≠ 63 → exec (.amend h hb w) s = .next (u.reply code .denied [])) ∧
          (e.ord.source ∈ amendable h.origin ∨ k.val = 63 →
            ((∀ r, orderOf h.origin w = some r → ¬(r.kind = e.ord.kind ∧ r.mode = e.ord.mode ∧ pulseWellBuilt r)) →
              exec (.amend h hb w) s = .next (u.reply code .badField [])) ∧
            ∀ r, orderOf h.origin w = some r → r.kind = e.ord.kind → r.mode = e.ord.mode → pulseWellBuilt r →
              let value := heldValue s.cfg.limits h.origin r.kind r.value
              let onTime := if r.mode = .pulse then r.onTime else 0
              let r' : OrderRec :=
                if k.val = 63 then { e.ord with value := value }
                else
                  { e.ord with value := value, select := r.select, sense := r.sense, count := r.count, onTime := onTime }
              let live := if r'.mode = .countdown then { e.live with remaining := r'.count } else e.live
              let amended : Entry := { ord := r', live := evaluate s.orders.cond r' live, latch := e.latch }
              exec (.amend h hb w) s =
                .next (((u.setSlot k { gen := (s.slot k).gen, entry := some amended }).resolveOrder r').reply code
                  (if value = r.value ∧ (k.val = 63 ∨ onTime = r.onTime) then .done else .adjusted) [hb.slot, hb.gen])))

/-- RETIRE, check by check, as AMEND but with slot 63 DENIED from every origin; a taken one frees the slot, advances
its generation, resolves what the order covered without it, and replies DONE with the handle. It joins no set and
raises no cause. LATCH and READ_ORDER, from every origin and for every slot: a handle out of its ranges BAD_FIELD, one
that names no order in use STALE. LATCH copies the record and the live fields where no copy waits, else HELD;
READ_ORDER gives the copy marked latched and takes it, or gives the fields as they stand; neither changes anything
else. LIST_ORDERS replies with the set of slots in use and the retired-by-part set, slot 0 in the least significant bit
of the last byte of each, and empties the retired-by-part set. -/
def Obligations.RetireLatchReadAndList : Prop :=
  (∀ (h : Header) (hb : HandleBytes) (s : State),
     let u := s.taken 0x12 h hb.bytes
     (63 < hb.slot.toNat ∨ 15 < hb.gen.toNat → exec (.retire h hb) s = .next (u.reply 0x12 .badField [])) ∧
     ∀ k : SlotId, hb.slot.toNat = k.val → hb.gen.toNat ≤ 15 →
       (56 ≤ k.val → exec (.retire h hb) s = .next (u.reply 0x12 .denied [])) ∧
       (k.val < 56 → (s.slot k).entry = none ∨ (s.slot k).gen.toNat ≠ hb.gen.toNat →
         exec (.retire h hb) s = .next (u.reply 0x12 .stale [])) ∧
       (k.val < 56 → ∀ e, (s.slot k).entry = some e → (s.slot k).gen.toNat = hb.gen.toNat →
         if e.ord.source ∈ amendable h.origin then
           exec (.retire h hb) s =
             .next (((u.setSlot k { gen := (s.slot k).gen + 1, entry := none }).resolveOrder e.ord).reply 0x12 .done
               [hb.slot, hb.gen])
         else exec (.retire h hb) s = .next (u.reply 0x12 .denied []))) ∧
  (∀ (h : Header) (hb : HandleBytes) (s : State),
     let u := s.taken 0x13 h hb.bytes
     let v := s.taken 0x14 h hb.bytes
     (63 < hb.slot.toNat ∨ 15 < hb.gen.toNat →
       exec (.latch h hb) s = .next (u.reply 0x13 .badField []) ∧
       exec (.readOrder h hb) s = .next (v.reply 0x14 .badField [])) ∧
     ∀ (k : SlotId) (g : BitVec 4), hb.slot.toNat = k.val → hb.gen.toNat = g.toNat →
       ((s.slot k).entry = none ∨ (s.slot k).gen ≠ g →
         exec (.latch h hb) s = .next (u.reply 0x13 .stale []) ∧
         exec (.readOrder h hb) s = .next (v.reply 0x14 .stale [])) ∧
       ∀ e, (s.slot k).entry = some e → (s.slot k).gen = g →
         (e.latch = none →
           exec (.latch h hb) s =
             .next ((u.setSlot k { gen := g, entry := some { e with latch := some (e.ord, e.live) } }).reply 0x13 .done
               [hb.slot, hb.gen]) ∧
           exec (.readOrder h hb) s = .next (v.reply 0x14 .done (orderReply k g false e.ord e.live))) ∧
         ∀ copy, e.latch = some copy →
           exec (.latch h hb) s = .next (u.reply 0x13 .held []) ∧
           exec (.readOrder h hb) s =
             .next ((v.setSlot k { gen := g, entry := some { e with latch := none } }).reply 0x14 .done
               (orderReply k g true copy.1 copy.2))) ∧
  (∀ (h : Header) (s : State),
     let u := s.taken 0x15 h []
     ∃ payload : List Byte, payload.length = 16 ∧
       (∀ k : SlotId, (payload[7 - k.val / 8]?).map (·.getLsbD (k.val % 8)) = some (s.slot k).entry.isSome ∧
         (payload[15 - k.val / 8]?).map (·.getLsbD (k.val % 8)) = some (s.orders.retired.getLsbD k.val)) ∧
       exec (.listOrders h) s =
         .next (({ u with orders := { s.orders with retired := 0 } }).reply 0x15 .done payload))

/-- An order's condition holds, in sense WHEN, with an empty select or a selected condition true, and in sense UNLESS
with no selected condition true. The sixteen conditions are true as the table of R43 says, D_ZONE, D_HELD and C_SENSOR
being judged against the order's own zones and false for a SCREEN order. What a condition's value does to an order's
live fields, by lifetime mode: an unchanged value changes nothing; a rise brings a STANDING, COUNTDOWN or TAIL order
IN_FORCE with its remaining as it stood, and starts a PULSE period with the stored count and on-time; a fall brings
WAITING with remaining held, but starts the tail of a TAIL order that is IN_FORCE. -/
def Obligations.ConditionsMoveTheLifetimes : Prop :=
  (∀ (w : CondWord) (o : OrderRec),
     (conditionHolds w o = true ↔
       match o.sense with
       | .whenTrue => o.select = 0 ∨ ∃ k : Fin 16, o.select.getLsbD k.val = true ∧ condTrue w o k.val = true
       | .unlessTrue => ∀ k : Fin 16, o.select.getLsbD k.val = true → condTrue w o k.val = false) ∧
     condTrue w o 0 = w.moving ∧ condTrue w o 1 = w.stopped ∧ condTrue w o 2 = w.depot ∧ condTrue w o 3 = w.night ∧
     (condTrue w o 4 = true ↔ w.supply = .line) ∧ (condTrue w o 5 = true ↔ w.supply = .pregap ∨ w.supply = .gap) ∧
     (condTrue w o 6 = true ↔ w.supply = .battery) ∧ condTrue w o 7 = w.lowBat ∧
     (condTrue w o 8 = true ↔ o.kind ≠ .screen ∧ ∃ (d : DoorId) (z : ZoneId), hasZone (Tab.get w.doorZones d) z = true ∧
       hasZone o.zones z = true ∧ (Tab.get w.doorState d = .opened ∨ Tab.get w.doorState d = .tail)) ∧
     (condTrue w o 9 = true ↔ ∃ d : DoorId, Tab.get w.doorState d = .opened ∨ Tab.get w.doorState d = .held) ∧
     (condTrue w o 10 = true ↔ o.kind ≠ .screen ∧ ∃ (d : DoorId) (z : ZoneId), hasZone (Tab.get w.doorZones d) z = true ∧
       hasZone o.zones z = true ∧ Tab.get w.doorState d = .held) ∧
     (condTrue w o 11 = true ↔ Tab.get w.doorState 0 = .opened ∨ Tab.get w.doorState 0 = .held ∨
       Tab.get w.doorState 0 = .tail) ∧
     (condTrue w o 12 = true ↔ w.tOut < w.frost) ∧
     (condTrue w o 13 = true ↔ w.watch = .risk ∨ w.watch = .fog ∨ w.watch = .ice ∨ (w.watch = .unknown ∧ w.tOut < 50)) ∧
     (condTrue w o 14 = true ↔ w.warm < w.tOut) ∧
     (condTrue w o 15 = true ↔ o.kind ≠ .screen ∧ ∃ z : ZoneId, hasZone o.zones z = true ∧ Tab.get w.airValid z = false)) ∧
  (∀ (w : CondWord) (o : OrderRec) (l : OrderLive),
     (conditionHolds w o = l.holds → evaluate w o l = l) ∧
     (conditionHolds w o = true → l.holds = false →
       (o.mode ≠ .pulse → evaluate w o l = { l with holds := true, state := .inForce }) ∧
       (o.mode = .pulse → evaluate w o l =
         { l with holds := true, state := .inForce, remaining := o.count, period := o.count,
                  offTime := if o.onTime = 0 then o.count / 2 else o.count - o.onTime })) ∧
     (conditionHolds w o = false → l.holds = true →
       (o.mode ≠ .tail → evaluate w o l = { l with holds := false, state := .waiting }) ∧
       (o.mode = .tail → l.state = .inForce →
         evaluate w o l = { l with holds := false, state := .tailing, remaining := o.count }) ∧
       (o.mode = .tail → l.state ≠ .inForce → evaluate w o l = { l with holds := false })))

/-- CONDITION_POSTING replaces the input it carries, evaluates every order in use, and resolves once the zones, and for
a SCREEN order the level, that the orders whose value changed cover. WATCH_POSTING stores the value it carries in slot
62 first, then takes the watch state into the condition word and evaluates every order, then resolves once what the
changed orders cover, and the screen level where a value was carried. A posting of FOG or ICE with its value 2 leaves
the screen level at 2, DEFROST, when its resolution is finished. -/
def Obligations.PostingsReevaluateTheConditions : Prop :=
  (∀ (x : CondInput) (s : State),
     let c := s.orders.cond
     let w : CondWord :=
       match x with
       | .vehicle m st d n => { c with moving := m, stopped := st, depot := d, night := n }
       | .supply x => { c with supply := x }
       | .batteryLow b => { c with lowBat := b }
       | .doorway d x zs => { c with doorState := Tab.put c.doorState d x, doorZones := Tab.put c.doorZones d zs }
       | .outside t stale => { c with tOut := t, stale := stale }
       | .thresholds f wm => { c with frost := f, warm := wm }
       | .airValidity z v => { c with airValid := Tab.put c.airValid z v }
     let evaluated (k : SlotId) : Slot :=
       { gen := (s.slot k).gen, entry := (s.slot k).entry.map fun e => { e with live := evaluate w e.ord e.live } }
     let changed (k : SlotId) (o : OrderRec) : Prop :=
       ∃ e, (s.slot k).entry = some e ∧ e.ord = o ∧ conditionHolds w o ≠ e.live.holds
     ∃ (zs : ZoneSet) (scr : Bool),
       (∀ z, hasZone zs z = true ↔ ∃ k o, changed k o ∧ hasZone o.zones z = true) ∧
       (scr = true ↔ ∃ k o, changed k o ∧ o.kind = .screen) ∧
       exec (.conditionPosting x) s =
         .next (({ s with orders := { s.orders with
           cond := w
           slots := Tab.build fun k => evaluated k } }).resolve zs scr)) ∧
  (∀ (x : Watch) (v : Option Nat) (s : State),
     let w : CondWord := { s.orders.cond with watch := x }
     let stored (k : SlotId) (e : Entry) : Entry :=
       if k.val = 62 then { e with ord := { e.ord with value := (v.map Int.ofNat).getD e.ord.value } } else e
     let evaluated (k : SlotId) : Slot :=
       { gen := (s.slot k).gen
         entry := (s.slot k).entry.map fun e => { stored k e with live := evaluate w (stored k e).ord e.live } }
     let changed (k : SlotId) (o : OrderRec) : Prop :=
       ∃ e, (s.slot k).entry = some e ∧ (stored k e).ord = o ∧ conditionHolds w o ≠ e.live.holds
     ∃ (zs : ZoneSet) (scr : Bool),
       (∀ z, hasZone zs z = true ↔ ∃ k o, changed k o ∧ hasZone o.zones z = true) ∧
       (scr = true ↔ v.isSome = true ∨ ∃ k o, changed k o ∧ o.kind = .screen) ∧
       exec (.watchPosting x v) s =
         .next (({ s with orders := { s.orders with
           cond := w
           slots := Tab.build fun k => evaluated k } }).resolve zs scr)) ∧
  (∀ (x : Watch) (s t : State), x = .fog ∨ x = .ice → SlotsSound s → orderSound s screenSlot = true →
     OrdersInRange s → exec (.watchPosting x (some 2)) s = .next t → t.orders.level = 2)

/-- TIME_BASE_BOUNDARY counts every order whose state counts: a COUNTDOWN that is IN_FORCE, a TAIL that is TAILING, a
PULSE that is IN_FORCE or RESTING. At remaining 0 the COUNTDOWN is retired by the part (its slot joins the set and
ORDER_RETIRED, cause 7, is pending), the TAIL goes to WAITING and the PULSE starts a new period; at its off-time a
PULSE rests. What the transitions touched is resolved once, and the next boundary falls one second later. -/
def Obligations.BoundaryCountsEveryLifetime : Prop :=
  ∀ s : State,
    let tick (e : Entry) : Option OrderLive :=
      let l := e.live
      let n := l.remaining - 1
      match e.ord.mode, l.state with
      | .countdown, .inForce => if n = 0 then none else some { l with remaining := n }
      | .tail, .tailing =>
        some (if n = 0 then { l with remaining := 0, state := .waiting } else { l with remaining := n })
      | .pulse, .inForce | .pulse, .resting =>
        some (if n = 0 then
            { l with state := .inForce, remaining := e.ord.count, period := e.ord.count,
                     offTime := if e.ord.onTime = 0 then e.ord.count / 2 else e.ord.count - e.ord.onTime }
          else if n = l.offTime then { l with remaining := n, state := .resting }
          else { l with remaining := n })
      | _, _ => some l
    let counting (e : Entry) : Prop :=
      (e.ord.mode = .countdown ∧ e.live.state = .inForce) ∨ (e.ord.mode = .tail ∧ e.live.state = .tailing) ∨
        (e.ord.mode = .pulse ∧ (e.live.state = .inForce ∨ e.live.state = .resting))
    let touched (o : OrderRec) : Prop :=
      ∃ k e, (s.slot k).entry = some e ∧ e.ord = o ∧ counting e ∧
        (e.live.remaining ≤ 1 ∨ (o.mode = .pulse ∧ e.live.remaining - 1 = e.live.offTime))
    let expired (k : SlotId) : Prop := ∃ e, (s.slot k).entry = some e ∧ tick e = none
    ∃ (zs : ZoneSet) (scr : Bool) (retired : BitVec 64) (causes : Byte),
      (∀ z, hasZone zs z = true ↔ ∃ o, touched o ∧ hasZone o.zones z = true) ∧
      (scr = true ↔ ∃ o, touched o ∧ o.kind = .screen) ∧
      (∀ k : SlotId, retired.getLsbD k.val = true ↔ s.orders.retired.getLsbD k.val = true ∨ expired k) ∧
      ((∃ k, expired k) → causes = s.link.causes ||| 0x40#8) ∧ ((∀ k, ¬expired k) → causes = s.link.causes) ∧
      exec .timeBaseBoundary s =
        .next (({ s with
          now := max s.now s.orders.boundary
          link := { s.link with causes := causes }
          orders := { s.orders with
            boundary := s.orders.boundary + 1000
            retired := retired
            slots := Tab.build fun k =>
              match (s.slot k).entry with
              | none => s.slot k
              | some e =>
                match tick e with
                | none => { gen := (s.slot k).gen + 1, entry := none }
                | some l => { s.slot k with entry := some { e with live := l } } } }).resolve zs scr)

/-- The expiries of one order, taken as events: a COUNTDOWN that is IN_FORCE is retired by the part, a TAIL that is
TAILING goes to WAITING with remaining 0, a PULSE that is IN_FORCE or RESTING starts a new period; what the order
covers is resolved. On an order that is not so the row has no effect (log entry 3). -/
def Obligations.LifetimeExpiries : Prop :=
  ∀ (k : SlotId) (s : State),
    ((s.slot k).entry = none → exec (.countdownExpiry k) s = .next s ∧ exec (.orderTailExpiry k) s = .next s ∧
      exec (.pulsePeriodExpiry k) s = .next s) ∧
    ∀ e, (s.slot k).entry = some e →
      (if e.ord.mode = .countdown ∧ e.live.state = .inForce then
        exec (.countdownExpiry k) s =
          .next ((({ s with
            link := { s.link with causes := s.link.causes ||| 0x40#8 }
            orders := { s.orders with retired := s.orders.retired ||| (1#64 <<< k.val) } }).setSlot k
              { gen := (s.slot k).gen + 1, entry := none }).resolveOrder e.ord)
      else exec (.countdownExpiry k) s = .next s) ∧
      (if e.ord.mode = .tail ∧ e.live.state = .tailing then
        exec (.orderTailExpiry k) s =
          .next ((s.setSlot k { s.slot k with
            entry := some { e with live := { e.live with state := .waiting, remaining := 0 } } }).resolveOrder e.ord)
      else exec (.orderTailExpiry k) s = .next s) ∧
      (if e.ord.mode = .pulse ∧ (e.live.state = .inForce ∨ e.live.state = .resting) then
        exec (.pulsePeriodExpiry k) s =
          .next ((s.setSlot k { s.slot k with
            entry := some { e with live := { e.live with
              state := .inForce, remaining := e.ord.count, period := e.ord.count
              offTime := if e.ord.onTime = 0 then e.ord.count / 2 else e.ord.count - e.ord.onTime } } }).resolveOrder e.ord)
      else exec (.pulsePeriodExpiry k) s = .next s)

/-- A PARK entry at the Order Table retires the orders in slots 0 to 55 whose persist is no, adds their slots to the
retired-by-part set, makes ORDER_RETIRED pending if there was one, and resolves all eight zones once in PARK, the
screen level too where a SCREEN order went. A posting of another mode resolves all eight zones in it; of the mode held,
nothing. RESTART at the Order Table: every order in slots 0 to 55 is retired and its generation advances, with no cause
and nothing joining the retired-by-part set, which is emptied; slots 62 and 63 lose their latched copies and keep the
rest; what the retired orders covered is resolved once. -/
def Obligations.ModeAndRestartReachTheOrderTable : Prop :=
  (∀ s : State,
     (let gone (k : SlotId) (e : Entry) : Prop := k.val < 56 ∧ (s.slot k).entry = some e ∧ e.ord.persist = false;
       ∃ (scr : Bool) (retired : BitVec 64) (causes : Byte),
         (scr = true ↔ ∃ k e, gone k e ∧ e.ord.kind = .screen) ∧
         (∀ k : SlotId, retired.getLsbD k.val = true ↔ s.orders.retired.getLsbD k.val = true ∨ ∃ e, gone k e) ∧
         ((∃ k e, gone k e) → causes = s.link.causes ||| 0x40#8) ∧ ((∀ k e, ¬gone k e) → causes = s.link.causes) ∧
         exec .orderTableParkClear s =
           .next (({ s with
             link := { s.link with causes := causes }
             orders := { s.orders with
               mode := .park
               retired := retired
               slots := Tab.build fun k =>
                 match (s.slot k).entry with
                 | none => s.slot k
                 | some e =>
                   if k.val < 56 ∧ e.ord.persist = false then { gen := (s.slot k).gen + 1, entry := none }
                   else s.slot k } }).resolve 0xFF scr)) ∧
     ∀ m : Mode, exec (.orderTableModePosting m) s =
       .next (if s.orders.mode = m then s
         else ({ s with orders := { s.orders with mode := m } }).resolve 0xFF false)) ∧
  (∀ s : State,
     ∃ (zs : ZoneSet) (scr : Bool),
       (∀ z, hasZone zs z = true ↔
         ∃ k e, k.val < 56 ∧ (s.slot k).entry = some e ∧ hasZone e.ord.zones z = true) ∧
       (scr = true ↔ ∃ k e, k.val < 56 ∧ (s.slot k).entry = some e ∧ e.ord.kind = .screen) ∧
       exec .orderTableRestart s =
         .next (({ s with orders := { s.orders with
           retired := 0
           slots := Tab.build fun k =>
             match (s.slot k).entry with
             | none => s.slot k
             | some e =>
               if k.val < 56 then { gen := (s.slot k).gen + 1, entry := none }
               else if 62 ≤ k.val then { s.slot k with entry := some { e with latch := none } }
               else s.slot k } }).resolve zs scr))

/-! ### Resolution (chapter 03) -/

/-- HOLD and VENT are won by rank, then by the lower slot: the winner's value is the hold result (0 is OFF) or the fan
order, its slot the origin. With no HOLD taking part RUN gives the default setpoint and PARK gives OFF; with no VENT
the fan order is 0 and the origin none. The floor is the greatest value of the FLOOR orders that take part, none where
that is 0 or there is none; the cap is the least value of the CAP orders, 100 with none; the screen level is the
greatest value of the SCREEN orders, 0 with none. The values are those of R24's ranges. -/
def Obligations.HoldFanFloorCapAndLevelAreResolved : Prop :=
  (∀ (slots : Vector Slot 64) (mode : Mode) (r : ZoneRec) (z : ZoneId),
     let t := resolvedTarget (inForceOrders slots) mode r z
     (∀ k o, wins slots .hold z k o →
       t.holdOrigin = .slot k ∧ t.hold = if o.value = 0 then .off else .setpoint o.value) ∧
     ((∀ k o, ¬takesPartIn slots .hold z k o) →
       (mode = .run → t.holdOrigin = .default ∧ t.hold = .setpoint r.setpoint) ∧
       (mode = .park → t.holdOrigin = .parked ∧ t.hold = .off)) ∧
     ((∃ k o, takesPartIn slots .hold z k o) → ∃ k o, wins slots .hold z k o) ∧
     (∀ k o, wins slots .vent z k o → t.fanOrigin = some k ∧ t.fanOrder = o.value.toNat) ∧
     ((∀ k o, ¬takesPartIn slots .vent z k o) → t.fanOrigin = none ∧ t.fanOrder = 0) ∧
     ((∃ k o, takesPartIn slots .vent z k o) → ∃ k o, wins slots .vent z k o)) ∧
  (∀ (slots : Vector Slot 64) (mode : Mode) (r : ZoneRec) (z : ZoneId),
     let t := resolvedTarget (inForceOrders slots) mode r z
     let level := resolvedLevel (inForceOrders slots)
     ((∀ k o, takesPartIn slots .floor z k o → o.value ≤ 0) → t.floor = none) ∧
     (∀ k o, takesPartIn slots .floor z k o → 0 < o.value →
       (∀ k' o', takesPartIn slots .floor z k' o' → o'.value ≤ o.value) → t.floor = some o.value) ∧
     ((∀ k o, ¬takesPartIn slots .cap z k o) → t.cap = 100) ∧
     (∀ k o, takesPartIn slots .cap z k o → 0 ≤ o.value → o.value ≤ 100 →
       (∀ k' o', takesPartIn slots .cap z k' o' → o.value ≤ o'.value) → (t.cap : Int) = o.value) ∧
     ((∀ k o, ¬takesPartInScreen slots k o) → level = 0) ∧
     ∀ k o, takesPartInScreen slots k o → 0 ≤ o.value →
       (∀ k' o', takesPartInScreen slots k' o' → o'.value ≤ o.value) → (level : Int) = o.value)

/-- The offset of a zone is the sum of the stored values of the OFFSET orders that take part in it, clamped to -80 to
80, and 0 with none; it is added to a setpoint hold result and not applied to OFF. The value an order stores lies in
-80 to 80 on its own, whatever its command carries. -/
def Obligations.OffsetIsTheClampedSum : Prop :=
  ∀ (slots : Vector Slot 64) (mode : Mode) (r : ZoneRec) (z : ZoneId),
    let t := resolvedTarget (inForceOrders slots) mode r z
    let contribution (k : SlotId) : Int :=
      match (Tab.get slots k).entry with
      | none => 0
      | some e =>
        if (e.live.state = .inForce ∨ e.live.state = .tailing) ∧ e.ord.kind = .offset ∧ hasZone e.ord.zones z = true
        then e.ord.value else 0
    t.offset = max (-80) (min 80 ((List.finRange 64).map contribution).sum) ∧
    ((∀ k o, ¬takesPartIn slots .offset z k o) → t.offset = 0) ∧
    (∀ x, t.hold = .setpoint x → t.ts = some (max (max r.bandMin (min r.bandMax (x + t.offset))) (t.floor.getD 0))) ∧
    (t.hold = .off → t.ts = t.floor) ∧
    ∀ (l : LimitsRec) (o : Origin) (v : Int), -80 ≤ clampFor l o .offset v ∧ clampFor l o .offset v ≤ 80

/-- The activity and Ts: OFF without a floor is INACTIVE, OFF with one is ACTIVE at the floor, a setpoint is ACTIVE at
the sum with the offset, clamped to the band and raised to the floor. Where the bands and floors are in their ranges,
Ts is not below any FLOOR in force there and not above the band maximum. -/
def Obligations.EffectiveSetpointByR59 : Prop :=
  ∀ (slots : Vector Slot 64) (mode : Mode) (r : ZoneRec) (z : ZoneId), r.inRange z →
    let t := resolvedTarget (inForceOrders slots) mode r z
    (t.hold = .off → t.floor = none → t.activity = .inactive ∧ t.ts = none) ∧
    (∀ f, t.hold = .off → t.floor = some f → t.activity = .active ∧ t.ts = some f) ∧
    (∀ x, t.hold = .setpoint x → t.activity = .active ∧
      let y := max r.bandMin (min r.bandMax (x + t.offset))
      (t.floor = none → t.ts = some y) ∧ ∀ f, t.floor = some f → t.ts = some (if y < f then f else y)) ∧
    ((∀ k o, takesPartIn slots .floor z k o → o.value ≤ 150) →
      ∀ x, t.ts = some x → x ≤ r.bandMax ∧ ∀ k o, takesPartIn slots .floor z k o → o.value ≤ x)

/-- Resolution of a set of zones, and of the screen level or not, recomputes their target records whole from the orders
in force and keeps the others. It posts, for each zone, a change to INACTIVE, a lowered cap, a changed activity or Ts,
and then a changed screen level, behind the postings that wait, and nothing else. Resolution sets the effect of the
orders it reaches, those of a resolved zone or, with the level, the SCREEN orders, and changes nothing else of any
order. To resolve what an order covers is to resolve its zones, and for a SCREEN order the screen level. WAITING and RESTING orders have NONE; a HOLD or VENT order wins the zones whose origin it is, a CAP order those
whose cap is its value, OFFSET and FLOOR are FULL; a SCREEN order is FULL at the level. -/
def Obligations.ResolutionRecomputesTargetsAndEffects : Prop :=
  (∀ (s : State) (o : OrderRec),
     (o.kind = .screen → s.resolveOrder o = s.resolve o.zones true) ∧
     (o.kind ≠ .screen → s.resolveOrder o = s.resolve o.zones false)) ∧
  (∀ (s : State) (zs : ZoneSet) (scr : Bool),
     let t := s.resolve zs scr
     let l := inForceOrders s.orders.slots
     (∀ z, t.target z = if hasZone zs z = true then resolvedTarget l s.orders.mode (s.zoneRec z) z else s.target z) ∧
     t.orders.level = (if scr = true then resolvedLevel l else s.orders.level) ∧
     t = { s with
       posts := t.posts
       orders := { s.orders with targets := t.orders.targets, level := t.orders.level, slots := t.orders.slots } } ∧
     ∃ new, t.posts = s.posts ++ new ∧
       (∀ z, .zoneInactivePosting z ∈ new ↔ (s.target z).activity = .active ∧ (t.target z).activity = .inactive) ∧
       (∀ z c, .capLowered z c ∈ new ↔ c = (t.target z).cap ∧ c < (s.target z).cap) ∧
       (∀ z ts, .zoneTargetPosting z ts ∈ new ↔
         ts = (t.target z).ts ∧ ¬((s.target z).activity = (t.target z).activity ∧ (s.target z).ts = ts)) ∧
       (∀ n, .screenLevelPosting n ∈ new ↔ n = t.orders.level ∧ n ≠ s.orders.level) ∧
       ∀ c ∈ new, (∃ z, c = .zoneInactivePosting z) ∨ (∃ z n, c = .capLowered z n) ∨ (∃ z ts, c = .zoneTargetPosting z ts) ∨
         ∃ n, c = .screenLevelPosting n) ∧
  (∀ (s : State) (zs : ZoneSet) (scr : Bool) (k : SlotId) (e : Entry), (s.slot k).entry = some e → 0 ≤ e.ord.value ∨
       (e.ord.kind ≠ .cap ∧ e.ord.kind ≠ .screen) →
     let t := s.resolve zs scr
     let o := e.ord
     let reached : Prop :=
       if o.kind = .screen then scr = true else ∃ z, hasZone zs z = true ∧ hasZone o.zones z = true
     let won (z : ZoneId) : Prop :=
       (o.kind = .hold → (t.target z).holdOrigin = .slot k) ∧ (o.kind = .vent → (t.target z).fanOrigin = some k) ∧
         (o.kind = .cap → ((t.target z).cap : Int) = o.value)
     ∃ f, t.slot k = { gen := (s.slot k).gen, entry := some { e with live := { e.live with effect := f } } } ∧
       (¬reached → f = e.live.effect) ∧
       (reached →
         (e.live.state = .waiting ∨ e.live.state = .resting → f = .none) ∧
         (e.live.state = .inForce ∨ e.live.state = .tailing →
           (o.kind = .screen → (f = .full ↔ o.value = t.orders.level) ∧ f ≠ .partly) ∧
           (o.kind ≠ .screen →
             (f = .full ↔ ∀ z, hasZone o.zones z = true → won z) ∧
             (f = .none ↔ ∀ z, hasZone o.zones z = true → ¬won z)))))

/-! ### Sensors (chapter 04) -/

/-- An arrival at a channel, by R72 to R74: in the range of the role it raises the count to at most 8, is taken in
VALID and from the return run on, which brings VALID and stops the hold timer; out of range it returns the count to 0
and brings a VALID channel to SUSPECT with its hold timer started, and a running one keeps its expiry. SENSE, check by
check: DENIED from DRIVER, BAD_FIELD above channel 31, WRONG_STATE unless the channel is EXTERNAL with a role; else an
arrival of the value carried, unclamped, that restarts the refresh timer at 10 s, answered DONE with the channel's
state and last value after it. -/
def Obligations.ArrivalsAreJudgedAndSensed : Prop :=
  (∀ (s : State) (k : SensorId) (v : Int),
     let l := s.sensor k
     let r := s.sensorRec k
     let n := min 8 (l.count + 1)
     let valid : Prop :=
       match r.role with
       | .zoneAir _ | .outside | .glass => -500 ≤ v ∧ v ≤ 850
       | .surface _ | .lineUnused => -500 ≤ v ∧ v ≤ 2000
       | .cabHumidity => 0 ≤ v ∧ v ≤ 1000
       | .unused => False
     (valid → l.state = .valid → s.judged k v = { l with count := n, last := v }) ∧
     (valid → l.state ≠ .valid → n < r.run → s.judged k v = { l with count := n }) ∧
     (valid → l.state ≠ .valid → r.run ≤ n →
       s.judged k v = { l with state := .valid, count := n, last := v, holdTimer := none }) ∧
     (¬valid → l.state = .valid →
       s.judged k v = { l with state := .suspect, count := 0, holdTimer := some (s.now + 1000 * r.hold) }) ∧
     (¬valid → l.state ≠ .valid → s.judged k v = { l with count := 0 })) ∧
  (∀ (h : Header) (n : Byte) (v : Word) (s : State),
     let u := s.taken 0x33 h [n, v.hi, v.lo]
     (h.origin = .driver → exec (.sense h n v) s = .next (u.reply 0x33 .denied [])) ∧
     (h.origin ≠ .driver → 31 < n.toNat → exec (.sense h n v) s = .next (u.reply 0x33 .badField [])) ∧
     (h.origin ≠ .driver → ∀ k : SensorId, n.toNat = k.val →
       let l := { s.judged k v.toInt with refreshTimer := some (s.now + 10000) }
       if (s.sensorRec k).origin = .external ∧ (s.sensorRec k).role ≠ .unused then
         exec (.sense h n v) s =
           .next ((u.sensorEvent k l).reply 0x33 .done (bytesOfWords
             [match l.state with | .valid => 0 | .suspect => 1 | .lost => 2, BitVec.ofInt 16 l.last]))
       else exec (.sense h n v) s = .next (u.reply 0x33 .wrongState [])))

/-- Ta of a zone is the sum of the last values of its VALID and SUSPECT air channels divided by their number, rounded
toward zero, and unknown with none; its air validity is yes while one of its channels is VALID. A surface state is the
reading of the channel's sensor, lost while that is LOST, and none without a sensor. The glass temperature and the cab
humidity are the last value of the channel of their role while that is not LOST, and else absent. At power-on every Ta is unknown,
no air validity is yes and no surface has a state. After each event at a channel, To is the lowest last value of the
OUTSIDE channels that are not LOST, fresh, or the value it had, stale, with none; and the event posts what R80's table
says, in its order, and nothing else: a changed air validity, a changed To, with its stale flag to the Order Table, and to the Doorway Monitor, the watch's
inputs where the channel has, or had before a change of its record, one of the four roles, the surface state where it
has or had the role of one. Where a
channel had and has the role SURFACE, the former output channel is posted first (log entry 34). -/
def Obligations.SensorEventsRecomputeAndPost : Prop :=
  ((∀ (s : State) (z : ZoneId),
     let counts (k : SensorId) : Bool :=
       decide ((s.sensorRec k).role = .zoneAir z) && decide ((s.sensor k).state ≠ .lost)
     let number := ((List.finRange 32).map fun k => if counts k then 1 else 0).sum
     let total : Int := ((List.finRange 32).map fun k => if counts k then (s.sensor k).last else 0).sum
     (number = 0 → s.ta z = none) ∧ (0 < number → s.ta z = some (total.tdiv number)) ∧
     (s.airValid z = true ↔ ∃ k, (s.sensorRec k).role = .zoneAir z ∧ (s.sensor k).state = .valid)) ∧
   (∀ (s : State) (c : ChanId),
     ((∀ k, (s.sensorRec k).role ≠ .surface c) → s.surfaceState c = .noSensor) ∧
     ∀ k, (s.sensorRec k).role = .surface c → (∀ j, (s.sensorRec j).role = .surface c → j = k) →
       s.surfaceState c = if (s.sensor k).state = .lost then .lost else .reading (s.sensor k).last) ∧
   (∀ s : State,
     let alone (k : SensorId) : Prop := ∀ j, (s.sensorRec j).role = (s.sensorRec k).role → j = k
     ((∀ k, (s.sensorRec k).role = .glass → (s.sensor k).state = .lost) → s.glass = none) ∧
     (∀ k, (s.sensorRec k).role = .glass → (s.sensor k).state ≠ .lost → alone k → s.glass = some (s.sensor k).last) ∧
     ((∀ k, (s.sensorRec k).role = .cabHumidity → (s.sensor k).state = .lost) → s.humidity = none) ∧
     (∀ k, (s.sensorRec k).role = .cabHumidity → (s.sensor k).state ≠ .lost → alone k →
       s.humidity = some (s.sensor k).last)) ∧
   (∀ z, State.reset.ta z = none ∧ State.reset.airValid z = false) ∧ (∀ c, State.reset.surfaceState c = .noSensor) ∧
   State.reset.glass = none ∧ State.reset.humidity = none) ∧
  ((∀ (k : SensorId) (l : SensorLive) (s : State),
     s.sensorEvent k l = (s.setSensor k l).derived s [(s.sensorRec k).role]) ∧
   ∀ (u s : State) (roles : List Role),
     let t := u.derived s roles
     let outside (j : SensorId) : Prop := (u.sensorRec j).role = .outside ∧ (u.sensor j).state ≠ .lost
     t = { u with posts := t.posts, scan := { u.scan with tOut := t.scan.tOut, stale := t.scan.stale } } ∧
     ((∀ j, ¬outside j) → t.scan.tOut = u.scan.tOut ∧ t.scan.stale = true) ∧
     ((∃ j, outside j) → t.scan.stale = false ∧ (∃ j, outside j ∧ t.scan.tOut = (u.sensor j).last) ∧
       ∀ j, outside j → t.scan.tOut ≤ (u.sensor j).last) ∧
     t.posts = u.posts ++
       (((List.finRange 8).filter fun z => decide (t.airValid z ≠ s.airValid z)).map fun z =>
         .conditionPosting (.airValidity z (t.airValid z))) ++
       (if t.scan.tOut = s.scan.tOut then []
       else [.conditionPosting (.outside t.scan.tOut t.scan.stale), .toPosting t.scan.tOut]) ++
       (if Role.outside ∈ roles ∨ Role.zoneAir 0 ∈ roles ∨ Role.glass ∈ roles ∨ Role.cabHumidity ∈ roles then
         [.screenSensorPosting (t.ta 0) t.scan.tOut t.scan.stale t.glass t.humidity]
       else []) ++
       roles.flatMap fun role =>
         match role with
         | .surface c => [.surfacePosting c (t.surfaceState c)]
         | .unused | .lineUnused | .zoneAir _ | .outside | .glass | .cabHumidity => [])

/-- A scan expiry starts a pass over the INTERNAL channels with a role, in descending order, and restarts the scan
timer, or is recorded while a pass runs. A conversion of the next channel of the pass is an arrival; the last one
completes the pass, and a recorded expiry then starts the next. Any other channel gives no arrival (log entry 3). The
expiry of a refresh timer is an out-of-range arrival that restarts the timer at 10 s; that of a hold timer makes the
channel LOST, its last value and count kept, and raises SENSOR_LOST (cause 3). A stopped timer does not expire (log
entry 3). RESTART keeps the sensor table and posts the air validities, in zone order, and then To with its stale flag to
the Order Table again (log entry 17). -/
def Obligations.PassesAndSensorTimersRun : Prop :=
  (∀ s : State,
     let started (t : State) : State :=
       { t with
         scan := { t.scan with
           pass := t.passList
           scanTimer := some (t.now + t.cfg.limits.scan)
           recorded := false } }
     s.passList.Pairwise (fun j k => k < j) ∧
     (∀ k, k ∈ s.passList ↔ (s.sensorRec k).origin = .internal ∧ (s.sensorRec k).role ≠ .unused) ∧
     (s.scan.scanTimer = none → exec .scanExpiry s = .next s) ∧
     (∀ e, s.scan.scanTimer = some e →
       let u := { s with now := max s.now e }
       exec .scanExpiry s =
         .next (if s.scan.pass = [] then started u
           else { u with scan := { u.scan with scanTimer := none, recorded := true } })) ∧
     ∀ k v,
       (s.scan.pass.head? ≠ some k → exec (.conversionArrival k v) s = .next s) ∧
       ∀ rest, s.scan.pass = k :: rest →
         let u := { s with
           pins := { s.pins with ain := Tab.put s.pins.ain k v }
           scan := { s.scan with pass := rest } }
         let t := u.sensorEvent k (s.judged k v)
         exec (.conversionArrival k v) s =
           .next (if rest = [] ∧ s.scan.recorded = true then started t else t)) ∧
  (∀ (k : SensorId) (s : State),
     (let l := s.sensor k;
       ((l.refreshTimer = none → exec (.refreshExpiry k) s = .next s) ∧
         ∀ e, l.refreshTimer = some e →
           let u := { s with now := max s.now e }
           let refresh := some (u.now + 10000)
           exec (.refreshExpiry k) s =
             .next (u.sensorEvent k
               (if l.state = .valid then
                 { l with
                   state := .suspect, count := 0, holdTimer := some (u.now + 1000 * (s.sensorRec k).hold)
                   refreshTimer := refresh }
               else { l with count := 0, refreshTimer := refresh }))) ∧
       (l.holdTimer = none → exec (.sensorHoldExpiry k) s = .next s) ∧
         ∀ e, l.holdTimer = some e →
           let t := ({ s with now := max s.now e }).sensorEvent k { l with state := .lost, holdTimer := none }
           exec (.sensorHoldExpiry k) s =
             .next { t with link := { t.link with causes := s.link.causes ||| 0x04#8 } }) ∧
     exec .sensorScannerRestart s =
       .next (s.post
         [.conditionPosting (.airValidity 0 (s.airValid 0)), .conditionPosting (.airValidity 1 (s.airValid 1)),
           .conditionPosting (.airValidity 2 (s.airValid 2)), .conditionPosting (.airValidity 3 (s.airValid 3)),
           .conditionPosting (.airValidity 4 (s.airValid 4)), .conditionPosting (.airValidity 5 (s.airValid 5)),
           .conditionPosting (.airValidity 6 (s.airValid 6)), .conditionPosting (.airValidity 7 (s.airValid 7)),
           .conditionPosting (.outside s.scan.tOut s.scan.stale)]))

/-! ### Zone regulation (chapter 05) -/

/-- The curve base at To: the first entry below -40.0 °C, the last from +35.0 °C on, and between them the entry at -400
+ 50k and the part of the step to the next that To has covered, rounded toward zero. INTERVAL_EXPIRY: the timer
restarts with the interval as it stands, and the zone takes the record its regulation state computes: closed loop where
ACTIVE with Ta known, open loop where it is unknown, at rest where INACTIVE. The demand is the sum of the terms limited
to full scale and to ten times the cap, the flags, the request, the fan level and the fresh-air demand follow from it,
and the demand never leaves the cap's bounds. A stopped timer does not expire (log entry 3). A zone that leaves INACTIVE keeps the duty it has (log entry 36). -/
def Obligations.IntervalComputesTheDemand : Prop :=
  (∀ (h : Vector Nat 16) (tOut : Int),
     (tOut < -400 → curveBase h tOut = (Tab.get h 0 : Nat)) ∧ (350 ≤ tOut → curveBase h tOut = (Tab.get h 15 : Nat)) ∧
     ∀ (k : Fin 15) (f : Nat), f < 50 → tOut = -400 + 50 * (k.val : Int) + f →
       curveBase h tOut =
         ((Tab.get h k.castSucc : Nat) : Int) +
           ((((Tab.get h k.succ : Nat) : Int) - ((Tab.get h k.castSucc : Nat) : Int)) * f).tdiv 50) ∧
  (∀ (z : ZoneId) (s : State),
     ((s.reg z).timer = none → exec (.intervalExpiry z) s = .next s) ∧
     ∀ e, (s.reg z).timer = some e →
       let u := { s with now := max s.now e }
       let g := s.reg z
       let r := s.zoneRec z
       let t := s.target z
       let timer := some (u.now + 1000 * r.interval)
       let cap : Int := t.cap
       let gain : Int := ((Tab.get s.link.vehicle.occupancy z * r.ko / 10 : Nat) : Int)
       let limited (x : Regulator) (raw : Int) : Regulator :=
         let demand := max (-(10 * cap)) (min (10 * cap) (max (-1000) (min 1000 raw)))
         { x with
           uRaw := raw
           u := demand
           limitedLow := decide (raw < -(10 * cap))
           highBound := decide (10 * cap < raw)
           shortfall := decide (g.grant < g.request)
           request := (max demand 0).toNat * g.pinst / 1000
           fan := if t.fanOrder = 0 then 1 + demand.natAbs * 6 / 1000 else t.fanOrder
           fanRead := t.fanOrder
           freshRead := r.minFresh
           fresh := if 0 ≤ demand then r.minFresh else r.minFresh + (-demand).toNat * (100 - r.minFresh) / 1000
           timer := timer }
       (t.activity = .active → ∀ ts, t.ts = some ts →
         let f := max 0 (min 1000 (curveBase s.cfg.curve s.scan.tOut + (r.kf * (ts - 200)).tdiv 10))
         (s.ta z = none →
           exec (.intervalExpiry z) s =
             .next (u.zoneTakes z
               (limited { g with state := .noSensor, e := none, p := 0, f := f, g := gain } (f + g.d - gain)))) ∧
         ∀ ta, s.ta z = some ta →
           let err := max (-200) (min 200 (ts - ta))
           let p := (r.kp * err).tdiv 10
           let step := (r.ki * err).tdiv 100
           let i :=
             if (0 < step ∧ (g.highBound = true ∨ g.shortfall = true)) ∨ (step < 0 ∧ g.limitedLow = true) then g.i
             else max (-1000) (min 1000 (g.i + step))
           exec (.intervalExpiry z) s =
             .next (u.zoneTakes z
               (limited { g with state := .regulating, e := some err, p := p, i := i, f := f, g := gain }
                 (p + i + f + g.d - gain)))) ∧
       (t.activity = .inactive →
         exec (.intervalExpiry z) s =
           .next (u.zoneTakes z
             { g with
               state := .inactive, e := none, p := 0, i := 0, f := 0, g := 0, uRaw := 0, u := 0
               limitedLow := false, highBound := false, shortfall := false
               request := 0, duty := 0, fan := 0, fresh := r.minFresh, freshRead := r.minFresh, timer := timer })) ∧
       ∀ t', exec (.intervalExpiry z) s = .next t' → -(10 * cap) ≤ (t'.reg z).u ∧ (t'.reg z).u ≤ 10 * cap)

/-- A zone that takes a record keeps every other zone's and posts, behind the postings that wait: the request where it
differs from the one held, the duty to each of its convectors where it differs, the fresh-air demand where it changed,
and for zone 0 its fan level and fresh-air demand; and nothing else. ZONE_GRANT, PINST_POSTING and DRAFT_POSTING: a
grant that differs sets the shortfall and the duty, which goes to every convector of the zone; a posting of Pinst
recomputes it from the available convectors and the duty from it, posted where it differs; a draft is stored. The duty
is the grant over Pinst in per mille, at most 1000, 0 with Pinst 0 and in INACTIVE, so that Pinst times the duty is at
most the grant. A grant that differs posts the duty, 0, in INACTIVE too (R100, log entry 24). The convectors of a zone
are those that have the type when the duty is posted (log entry 41). -/
def Obligations.ZonesPostAndTakeGrants : Prop :=
  (∀ (z : ZoneId) (x : Regulator) (s : State),
     let t := s.zoneTakes z x
     let old := s.reg z
     t = { s with regs := t.regs, posts := t.posts } ∧ t.reg z = x ∧ (∀ y, y ≠ z → t.reg y = s.reg y) ∧
     ∃ new, t.posts = s.posts ++ new ∧
       (∀ m n, .lineRequestPosting m n ∈ new ↔ m = .zone z ∧ n = x.request ∧ n ≠ old.request) ∧
       (∀ c n, .dutyPosting c n ∈ new ↔ (s.chanRec c).type = .convector z ∧ n = ⟨.zone z, x.duty⟩ ∧ x.duty ≠ old.duty) ∧
       (∀ y n, .freshAirPosting y n ∈ new ↔ y = z ∧ n = x.fresh ∧ n ≠ old.fresh) ∧
       (∀ a b, .zone0Posting a b ∈ new ↔ z = 0 ∧ a = x.fan ∧ b = x.fresh) ∧
       ∀ i ∈ new, (∃ m n, i = .lineRequestPosting m n) ∨ (∃ c n, i = .dutyPosting c n) ∨
         (∃ y n, i = .freshAirPosting y n) ∨ ∃ a b, i = .zone0Posting a b) ∧
  (∀ (z : ZoneId) (n : Nat) (s : State),
     let g := s.reg z
     let duty (grant pinst : Nat) : Nat :=
       if g.state = .inactive ∨ pinst = 0 then 0 else min 1000 (grant * 1000 / pinst)
     let toConvectors (d : Nat) : List Instr :=
       ((List.finRange 36).filter fun c => decide ((s.chanRec c).type = .convector z)).map fun c =>
         .dutyPosting c ⟨.zone z, d⟩
     let installed :=
       ((List.finRange 36).map fun c =>
         if (s.chanRec c).type = .convector z ∧ (s.chanRec c).enabled = true ∧ (s.chan c).surface ≠ .lost ∧
           (∀ b, bankOf c = some b → (s.bank b).state ≠ .fault ∧ (s.bank b).state ≠ .locked)
         then (s.chanRec c).rated else 0).sum
     exec (.zoneGrant z n) s =
       .next (if n = g.grant then s
         else (s.setReg z { g with
           grant := n, shortfall := decide (n < g.request), duty := duty n g.pinst }).post
             (toConvectors (duty n g.pinst))) ∧
     exec (.pinstPosting z) s =
       .next ((s.setReg z { g with pinst := installed, duty := duty g.grant installed }).post
         (if duty g.grant installed = g.duty then [] else toConvectors (duty g.grant installed))) ∧
     exec (.draftPosting z n) s = .next (s.setReg z { g with d := n }) ∧
     g.pinst * duty n g.pinst ≤ 1000 * n)

/-- CAP_LOWERED changes nothing while the demand lies within ten times the cap; else the demand goes to the bound, its
flag is set, and the request, the fan level and the fresh-air demand follow it, with the fan order and the minimum fresh
air that the zone has read: a new minimum waits for the next expiry (R3). ZONE_INACTIVE_POSTING makes every setting of
INACTIVE at once, and the interval timer keeps running. FRESH_AIR_POSTING
stores the zone's demand and sets the flap of its section, and that flap alone, to the greatest demand among the zones
of the section. RESTART at a zone: its record is as at power-on but for Pinst and the draft term, which it keeps, its
fresh-air demand is the minimum, its timer restarts with its interval, and it posts the duty 0 to its convectors, the
request 0 where it was not 0, its fresh-air demand, and for zone 0 the fan level 0 and the fresh-air demand. The fan
order and the minimum last read are 0 and the record's after RESTART (log entry 5), FRESH_AIR_POSTING reaches the
section the zone has when it is taken (log entry 20), and zone 0's figures are posted last (log entry 17). -/
def Obligations.TargetChangesFlapsAndZoneRestart : Prop :=
  (∀ (z : ZoneId) (c : Nat) (s : State),
     let g := s.reg z
     let m := g.freshRead
     let least := (s.zoneRec z).minFresh
     let bound : Int := 10 * c
     let following (x : Regulator) : Regulator :=
       { x with
         request := (max x.u 0).toNat * g.pinst / 1000
         fan := if g.fanRead = 0 then 1 + x.u.natAbs * 6 / 1000 else g.fanRead
         fresh := if 0 ≤ x.u then m else m + (-x.u).toNat * (100 - m) / 1000 }
     (-bound ≤ g.u → g.u ≤ bound → exec (.capLowered z c) s = .next s) ∧
     (bound < g.u → exec (.capLowered z c) s =
       .next (s.zoneTakes z (following { g with u := bound, highBound := true }))) ∧
     (g.u < -bound → exec (.capLowered z c) s =
       .next (s.zoneTakes z (following { g with u := -bound, limitedLow := true }))) ∧
     exec (.zoneInactivePosting z) s =
       .next (s.zoneTakes z
         { g with
           state := .inactive, e := none, p := 0, i := 0, f := 0, g := 0, uRaw := 0, u := 0
           limitedLow := false, highBound := false, shortfall := false
           request := 0, duty := 0, fan := 0, fresh := least, freshRead := least })) ∧
  (∀ (z : ZoneId) (n : Nat) (s : State),
     let position (f : Flaps) (x : Section) : Nat := match x with | .a => f.posA | .b => f.posB | .c => f.posC
     let mine := (s.zoneRec z).sect
     ∃ t, exec (.freshAirPosting z n) s = .next t ∧ t = { s with flaps := t.flaps } ∧
       t.flaps.demand = Tab.put s.flaps.demand z n ∧
       (∀ x, x ≠ mine → position t.flaps x = position s.flaps x) ∧
       (∀ y, (s.zoneRec y).sect = mine → Tab.get t.flaps.demand y ≤ position t.flaps mine) ∧
       ∃ y, (s.zoneRec y).sect = mine ∧ position t.flaps mine = Tab.get t.flaps.demand y) ∧
  (∀ (z : ZoneId) (s : State),
     let g := s.reg z
     let r := s.zoneRec z
     let x : Regulator :=
       { state := .starting, e := none, p := 0, i := 0, f := 0, d := g.d, g := 0, uRaw := 0, u := 0
         limitedLow := false, highBound := false, shortfall := false
         pinst := g.pinst, request := 0, grant := 0, duty := 0, fan := 0, fresh := r.minFresh
         timer := some (s.now + 1000 * r.interval), fanRead := 0, freshRead := r.minFresh }
     exec (.zoneRegulatorRestart z) s =
       .next ((s.setReg z x).post
         (((List.finRange 36).filter fun c => decide ((s.chanRec c).type = .convector z)).map
             (fun c => .dutyPosting c ⟨.zone z, 0⟩) ++
           (if g.request = 0 then [] else [.lineRequestPosting (.zone z) 0]) ++ [.freshAirPosting z r.minFresh] ++
           if z = 0 then [.zone0Posting 0 r.minFresh] else [])))

/-! ### Doorways and drafts (chapter 06) -/

/-- The draft term of a doorway is its open value, the zone's Kd times Ts less To, in OPEN, fades with the tail in TAIL
and is 0 in the other states and for a zone it does not serve or that is INACTIVE; D of a zone is their sum, at most
1000; the curtain request is the rated power of the available curtain channel, faded likewise. ZONE_TARGET_POSTING and
TO_POSTING store what they carry; each D that differs from the one last posted is then posted to its zone, and nothing
else. CURTAIN_GRANT replaces the grant and sets the duty to the grant over the rated power in per mille, at most 1000,
0 without a curtain channel or with rating 0, and posts it where it differs. CURTAIN_CHANNEL_POSTING has, for each
doorway it names in turn, the request, posted where it differs, and then the duty follow the channel as it stands, in an
order of the model's choice (log entry 17); with no curtain channel the grant goes to 0 too. A grant for a doorway
without a curtain channel is held (log entry 22). The curtain channel is read as it stands, also while a posting of its
change waits, by the model's choice (log entry 41). -/
def Obligations.DraftsAndCurtainsFollowTheDoorways : Prop :=
  ((∀ (d : DoorId) (z : ZoneId) (s : State),
     let x := s.door d
     let faded (n : Nat) : Nat :=
       match x.state with
       | .opened => n
       | .tail => n * x.tailRemaining / x.tailLength
       | .closed | .held | .fault => 0
     let served : Bool := hasZone (s.doorRec d).zones z
     (served = false → s.draftTerm d z = 0) ∧ (Tab.get s.mon.ts z = none → s.draftTerm d z = 0) ∧
     (served = true → ∀ ts, Tab.get s.mon.ts z = some ts →
       s.draftTerm d z = faded ((s.zoneRec z).kd * (max 0 (ts - s.mon.tOut)).toNat / 10)) ∧
     s.draftOf z = min 1000 (((List.finRange 6).map fun d => s.draftTerm d z).sum) ∧
     (∀ c, s.curtainChan d = some c → (s.chanRec c).type = .curtain d ∧
       s.curtainRequest d = if s.available c = true then faded (s.chanRec c).rated else 0) ∧
     (s.curtainChan d = none → (∀ c, (s.chanRec c).type ≠ .curtain d) ∧ s.curtainRequest d = 0)) ∧
   (∀ s : State,
     let t := s.postDrafts
     t = { s with mon := { s.mon with posted := t.mon.posted }, posts := t.posts } ∧
     (∀ z, Tab.get t.mon.posted z = s.draftOf z) ∧
     ∃ new, t.posts = s.posts ++ new ∧
       (∀ z n, .draftPosting z n ∈ new ↔ n = s.draftOf z ∧ n ≠ Tab.get s.mon.posted z) ∧
       ∀ i ∈ new, ∃ z n, i = .draftPosting z n) ∧
   (∀ (z : ZoneId) (ts : Option Int) (s : State),
     exec (.zoneTargetPosting z ts) s =
       .next ({ s with mon := { s.mon with ts := Tab.put s.mon.ts z ts } }).postDrafts) ∧
   ∀ (tOut : Int) (s : State), exec (.toPosting tOut) s = .next ({ s with mon := { s.mon with tOut := tOut } }).postDrafts) ∧
  (∀ (d : DoorId) (n : Nat) (s : State),
     let x := s.door d
     let given (u : State) (g : Nat) : State :=
       match s.curtainChan d with
       | none => u.setDoor d { u.door d with grant := g, duty := 0 }
       | some c =>
         let duty := if (s.chanRec c).rated = 0 then 0 else min 1000 (g * 1000 / (s.chanRec c).rated)
         (u.setDoor d { u.door d with grant := g, duty := duty }).post
           (if duty = x.duty then [] else [.dutyPosting c ⟨.doorway d, duty⟩])
     let request := s.curtainRequest d
     let asked : State :=
       if request = x.request then s
       else (s.setDoor d { x with request := request }).post [.lineRequestPosting (.curtain d) request]
     exec (.curtainGrant d n) s = .next (given s n) ∧
     exec (.curtainChannelPosting [d]) s = .next (given asked (if s.curtainChan d = none then 0 else x.grant)) ∧
     exec (.curtainChannelPosting []) s = .next s ∧
     ∀ (ds : List DoorId) (t : State), exec (.curtainChannelPosting [d]) s = .next t →
       exec (.curtainChannelPosting (d :: ds)) s = exec (.curtainChannelPosting ds) t)

/-- A doorway input that differs from the accepted one starts a full debounce, one that equals it stops the debounce.
The expiry accepts the input's level: a CLOSED or TAIL doorway enters OPEN with its hold timer, unless NO_HOLD, and
while the vehicle moves its fault timer; an OPEN or HELD one enters TAIL, HELD retiring its cap order first; one in
FAULT enters CLOSED. The new state is posted to the Order Table, then the drafts and after them the curtain request
follow (log entry 17). A stopped debounce timer does not expire (log entry 3). -/
def Obligations.DoorwayInputsAreDebounced : Prop :=
  ∀ (d : DoorId) (s : State),
    let x := s.door d
    let r := s.doorRec d
    let moved (u : State) (y : Door) : State :=
      (((u.setDoor d y).post [.conditionPosting (.doorway d y.state r.zones)]).postDrafts).postCurtain d
    (∀ isOpen : Bool, exec (.doorwayInputChange d isOpen) s =
      .next (if isOpen = x.raw then s
        else s.setDoor d { x with
          raw := isOpen
          debounceTimer := if isOpen = x.accepted then none else some (s.now + r.debounce) })) ∧
    (x.debounceTimer = none → exec (.debounceExpiry d) s = .next s) ∧
    ∀ e, x.debounceTimer = some e →
      let u := { s with now := max s.now e }
      let y := { x with accepted := x.raw, debounceTimer := none }
      let tail : Door := { y with
        state := .tail, holdTimer := none, faultTimer := none, capHandle := none
        tailRemaining := r.tail, tailLength := r.tail, tailTimer := some (u.now + 1000) }
      (x.raw = true → x.state = .closed ∨ x.state = .tail →
        exec (.debounceExpiry d) s =
          .next (moved u { y with
            state := .opened
            holdTimer := if r.noHold then none else some (u.now + 1000 * r.hold)
            faultTimer := if s.mon.moving then some (u.now + 1000 * r.faultDelay) else none
            tailRemaining := 0
            tailTimer := none })) ∧
      (x.raw = false → x.state = .opened → exec (.debounceExpiry d) s = .next (moved u tail)) ∧
      (x.raw = false → x.state = .held → ∀ cap, (s.slot (capSlot d)).entry = some cap →
        exec (.debounceExpiry d) s =
          .next (moved ((u.setSlot (capSlot d)
            { gen := (s.slot (capSlot d)).gen + 1, entry := none }).resolveOrder cap.ord) tail)) ∧
      (x.raw = false → x.state = .fault →
        exec (.debounceExpiry d) s = .next (moved u { y with state := .closed }))

/-- HOLD_EXPIRY brings an OPEN doorway to HELD: its cap order, IN_FORCE at once, is placed in slot 56 + d and resolved,
then the state is posted and the drafts and the curtain follow. FAULT_EXPIRY brings an OPEN or HELD doorway to FAULT: a
cap order is retired, DOORWAY_FAULT (cause 4) joins the pending set, and the same postings follow. The moving flag
starts the fault timers of OPEN and HELD doorways as it rises and stops every one as it falls. A tail second brings
tail remaining down by one and has the drafts and the curtain request follow; where none is left, and at
DOORWAY_TAIL_EXPIRY, the TAIL doorway enters CLOSED, posts its state, and both become 0. A stopped timer does not expire, and
DOORWAY_TAIL_EXPIRY acts whatever remains of the tail (log entry 3). The drafts follow before the curtain request (log
entry 17). -/
def Obligations.DoorwaysHoldFaultAndTail : Prop :=
  (∀ (d : DoorId) (s : State),
     let x := s.door d
     let r := s.doorRec d
     let k := capSlot d
     let moved (u : State) (y : Door) : State :=
       (((u.setDoor d y).post [.conditionPosting (.doorway d y.state r.zones)]).postDrafts).postCurtain d
     (x.holdTimer = none → exec (.holdExpiry d) s = .next s) ∧
     (∀ e, x.holdTimer = some e → x.state = .opened →
       let cap : OrderRec :=
         { source := .doorway, kind := .cap, zones := r.zones, value := r.cap, select := 0, sense := .whenTrue
           mode := .standing, count := 1, onTime := 0, persist := true }
       let live : OrderLive :=
         { state := .inForce, remaining := 1, period := 0, offTime := 0, holds := true, effect := .none }
       let placed : Slot := { gen := (s.slot k).gen, entry := some { ord := cap, live := live, latch := none } }
       exec (.holdExpiry d) s =
         .next (moved ((({ s with now := max s.now e }).setSlot k placed).resolveOrder cap)
           { x with state := .held, holdTimer := none, capHandle := some (s.slot k).gen })) ∧
     (x.faultTimer = none → exec (.faultExpiry d) s = .next s) ∧
     (∀ e, x.faultTimer = some e →
       let u := { s with now := max s.now e, link := { s.link with causes := s.link.causes ||| 0x08#8 } }
       let y := { x with state := .fault, holdTimer := none, faultTimer := none, capHandle := none }
       (x.state = .opened → exec (.faultExpiry d) s = .next (moved u y)) ∧
       (x.state = .held → ∀ cap, (s.slot k).entry = some cap →
         exec (.faultExpiry d) s =
           .next (moved ((u.setSlot k { gen := (s.slot k).gen + 1, entry := none }).resolveOrder cap.ord) y))) ∧
     ∀ moving : Bool, exec (.movingFlagPosting moving) s =
       .next (if moving = s.mon.moving then s
         else
           { s with mon := { s.mon with
             moving := moving
             doors := Tab.build fun j =>
               if moving = false then { s.door j with faultTimer := none }
               else if (s.door j).state = .opened ∨ (s.door j).state = .held then
                 { s.door j with faultTimer := some (s.now + 1000 * (s.doorRec j).faultDelay) }
               else s.door j } })) ∧
  (∀ (d : DoorId) (s : State),
     let x := s.door d
     let closed (u : State) : State :=
       (((u.setDoor d { x with state := .closed, tailRemaining := 0, tailTimer := none }).post
         [.conditionPosting (.doorway d .closed (s.doorRec d).zones)]).postDrafts).postCurtain d
     (x.tailTimer = none → exec (.tailSecond d) s = .next s) ∧
     (∀ e, x.tailTimer = some e → x.state = .tail →
       let u := { s with now := max s.now e }
       exec (.tailSecond d) s =
         .next (if x.tailRemaining ≤ 1 then closed u
           else ((u.setDoor d { x with
             tailRemaining := x.tailRemaining - 1, tailTimer := some (e + 1000) }).postDrafts).postCurtain d)) ∧
     exec (.doorwayTailExpiry d) s = .next (if x.state = .tail then closed s else s))

/-- RESTART at the Doorway Monitor: every doorway is CLOSED with its accepted input closed, its timers stopped but for
the debounce of an input that reads open, its tail, request, grant and duty 0 and no cap handle; the cap orders of HELD
doorways are retired, joining no set and raising no cause, and what they covered is resolved without them; every state
is posted to the Order Table, each zone whose D was not 0 is posted 0, each request that was not 0 is posted 0, and each
curtain channel a duty of 0. -/
def Obligations.RestartClosesTheDoorways : Prop :=
  ∀ s : State,
    let dropped (k : SlotId) : Prop :=
      ∃ d, k = capSlot d ∧ (s.door d).state = .held ∧ (s.slot k).entry ≠ none
    let retired (o : OrderRec) : Prop := ∃ k e, dropped k ∧ (s.slot k).entry = some e ∧ o = e.ord
    ∃ t new, exec .doorwayMonitorRestart s = .next t ∧ t.posts = s.posts ++ new ∧
      t = { s with
        orders := { s.orders with slots := t.orders.slots, targets := t.orders.targets, level := t.orders.level }
        mon := { s.mon with doors := t.mon.doors, posted := Vector.replicate 8 0 }
        posts := t.posts } ∧
      (∀ d, t.door d =
        { s.door d with
          accepted := false
          debounceTimer := if (s.door d).raw = true then some (s.now + (s.doorRec d).debounce) else none
          state := .closed, holdTimer := none, tailRemaining := 0, tailTimer := none, faultTimer := none
          request := 0, grant := 0, duty := 0, capHandle := none }) ∧
      (∀ k, dropped k → t.slot k = { gen := (s.slot k).gen + 1, entry := none }) ∧
      (∀ k, ¬dropped k → (t.slot k).plain = (s.slot k).plain) ∧
      (let left := inForceOrders t.orders.slots;
        (∀ z, (∃ o, retired o ∧ hasZone o.zones z = true) →
          t.target z = resolvedTarget left s.orders.mode (s.zoneRec z) z) ∧
        (∀ z, (∀ o, retired o → hasZone o.zones z = false) → t.target z = s.target z) ∧
        ((∃ o, retired o ∧ o.kind = .screen) → t.orders.level = resolvedLevel left) ∧
        ((∀ o, retired o → o.kind ≠ .screen) → t.orders.level = s.orders.level)) ∧
      (∀ x, .conditionPosting x ∈ new ↔ ∃ d, x = .doorway d .closed (s.doorRec d).zones) ∧
      (∀ z n, .draftPosting z n ∈ new ↔ n = 0 ∧ Tab.get s.mon.posted z ≠ 0) ∧
      (∀ m n, .lineRequestPosting m n ∈ new ↔ n = 0 ∧ ∃ d, m = .curtain d ∧ (s.door d).request ≠ 0) ∧
      ∀ c n, .dutyPosting c n ∈ new ↔ ∃ d, s.curtainChan d = some c ∧ n = ⟨.doorway d, 0⟩

/-! ### Windscreen and cab glazing (chapter 07) -/

/-- SCREEN_SENSOR_POSTING stores what it carries and evaluates the watch from the state before it: UNKNOWN unless
Ta(0), the glass temperature and the humidity are there; else the dewpoint and the margin of R124, ICE by the ice test
of R125, and the margin tests of R126. A changed or a first state is posted with its value for slot 62, an entry into
FOG or ICE makes SCREEN_RISK (cause 5) pending, and the mirror requests follow. -/
def Obligations.WatchIsJudged : Prop :=
  ∀ (ta0 glass rh : Option Int) (tOut : Int) (stale : Bool) (s : State),
    let r := s.cfg.screen
    let prev := s.screen.watch
    ∃ (watch : Watch) (tdew margin : Option Int),
      ((ta0 = none ∨ glass = none ∨ rh = none) → watch = .unknown ∧ tdew = none ∧ margin = none) ∧
      (∀ tcab g h, ta0 = some tcab → glass = some g → rh = some h →
        (500 ≤ h → tdew = some (tcab - (1000 - h).tdiv 5) ∧
          margin = some (min 200 (g - (tcab - (1000 - h).tdiv 5)))) ∧
        (h < 500 → tdew = none ∧ margin = some 200) ∧
        (let iced : Prop := if prev = .ice then g ≤ r.ice + 20 ∧ tOut ≤ 10 else tOut ≤ 0 ∧ g ≤ r.ice;
          (iced → watch = .ice) ∧
          (¬iced → ∀ m, margin = some m →
            watch = match prev with
              | .fog => if m < r.fog + r.hyst then .fog else .risk
              | .risk => if m < r.fog then .fog else if m < r.risk + r.hyst then .risk else .clear
              | .clear | .ice | .unknown => if m < r.fog then .fog else if m < r.risk then .risk else .clear))) ∧
      let told : List Instr :=
        if watch = prev ∧ s.screen.initial = false then []
        else [.watchPosting watch (match watch with
          | .clear => none | .risk | .unknown => some 1 | .fog | .ice => some 2)]
      let causes := if watch ≠ prev ∧ (watch = .fog ∨ watch = .ice) then s.link.causes ||| 0x10#8 else s.link.causes
      exec (.screenSensorPosting ta0 tOut stale glass rh) s =
        .next ({ s with
          link := { s.link with causes := causes }
          screen := { s.screen with
            watch := watch, initial := false, ta0 := ta0, tOut := tOut, stale := stale, glass := glass, humidity := rh
            tdew := tdew, margin := margin }
          posts := s.posts ++ told }).postMirrors

/-- SCREEN_LEVEL_POSTING and ZONE0_POSTING: the cab blower, direction and flap follow the screen level and zone 0's
last figures; a new level recomputes the request of the screen heater (nothing, half or all of its rating by level) and
of each mirror (its rating, but nothing at level 0 with To at 3.0 °C or above), 0 for a heater that is not available,
and posts each that differs to the aux pool. AUX_GRANT replaces the grant and sets the duty to the grant over the rated
power in per mille, at most 1000, 0 for rating 0 or a channel that is no heater, posted where it differs.
AUX_CHANNEL_POSTING has the request and then the duty follow the channel as it stands. The mirror requests recomputed
after a sensor posting reach the mirrors alone. A grant for a channel that is no heater gives duty 0 (log entry 22), and
a channel's request is posted before its duty (log entry 17). Each reads the channel as it stands, also while a posting
of its change waits, by the model's choice (log entry 41). -/
def Obligations.LevelDrivesTheCabAndItsHeaters : Prop :=
  (∀ (level fan fresh : Nat) (s : State),
     let driven (c : ScreenCtl) : ScreenCtl :=
       { c with
         blower := if c.level = 0 then c.fan0 else if c.level = 1 then max c.fan0 5 else 7
         dir := decide (c.level ≠ 0)
         flap := if c.level = 0 then c.fresh0 else if c.level = 1 then max c.fresh0 60 else 100 }
     let heater (a : AuxId) : Prop := s.screenHeater = some a ∨ (s.chanRec (auxChan a)).type = .mirror
     let asks (a : AuxId) : Nat :=
       let rated := if s.available (auxChan a) = true then (s.chanRec (auxChan a)).rated else 0
       if (s.chanRec (auxChan a)).type = .screen then
         if level = 0 then 0 else if level = 1 then rated * 500 / 1000 else rated
       else if level = 0 ∧ 30 ≤ s.screen.tOut then 0 else rated
     let u := { s with screen := driven { s.screen with level := level } }
     (∀ a, s.screenHeater = some a → (s.chanRec (auxChan a)).type = .screen) ∧
     (s.screenHeater = none → ∀ a, (s.chanRec (auxChan a)).type ≠ .screen) ∧
     exec (.zone0Posting fan fresh) s =
       .next { s with screen := driven { s.screen with fan0 := fan, fresh0 := fresh } } ∧
     ∃ t new, exec (.screenLevelPosting level) s = .next t ∧
       t = { u with screen := { u.screen with heaters := t.screen.heaters }, posts := s.posts ++ new } ∧
       (∀ a, (heater a → t.heater a = { s.heater a with request := asks a }) ∧ (¬heater a → t.heater a = s.heater a)) ∧
       (∀ a n, .auxRequestPosting a n ∈ new ↔ heater a ∧ n = asks a ∧ n ≠ (s.heater a).request) ∧
       ∀ i ∈ new, ∃ a n, i = .auxRequestPosting a n) ∧
  ((∀ (a : AuxId) (n : Nat) (s : State),
     let r := s.chanRec (auxChan a)
     let x := s.heater a
     let duty (g : Nat) : Nat :=
       if (r.type = .screen ∨ r.type = .mirror) ∧ r.rated ≠ 0 then min 1000 (g * 1000 / r.rated) else 0
     let given (u : State) (g : Nat) : State :=
       (u.setHeater a { u.heater a with grant := g, duty := duty g }).post
         (if duty g = x.duty then []
         else match r.type with
           | .screen => [.dutyPosting (auxChan a) ⟨.screen, duty g⟩]
           | .mirror => [.dutyPosting (auxChan a) ⟨.mirror, duty g⟩]
           | .none | .convector _ | .curtain _ => [])
     let asked : State :=
       if s.heaterRequest a = x.request then s
       else (s.setHeater a { x with request := s.heaterRequest a }).post [.auxRequestPosting a (s.heaterRequest a)]
     exec (.auxGrant a n) s = .next (given s n) ∧ exec (.auxChannelPosting a) s = .next (given asked x.grant)) ∧
   ∀ s : State,
     let mirror (a : AuxId) : Prop := (s.chanRec (auxChan a)).type = .mirror
     let t := s.postMirrors
     ∃ new, t = { s with screen := { s.screen with heaters := t.screen.heaters }, posts := s.posts ++ new } ∧
       (∀ a, (mirror a → t.heater a = { s.heater a with request := s.heaterRequest a }) ∧
         (¬mirror a → t.heater a = s.heater a)) ∧
       (∀ a n, .auxRequestPosting a n ∈ new ↔ mirror a ∧ n = s.heaterRequest a ∧ n ≠ (s.heater a).request) ∧
       ∀ i ∈ new, ∃ a n, i = .auxRequestPosting a n)

/-- RESTART at the Screen Controller keeps the watch, its inputs and the screen level; it posts the watch state again
without a value, sets every aux grant and duty to 0 and posts the duties, takes zone 0's fan level 0 and its minimum
fresh air, recomputes what the level drives in the cab, and posts the heater requests as they stand. The duties and requests are posted whether or not they differ, the duties to the SCREEN and MIRROR
channels (log entry 27), with the channels as they stand (log entry 41). -/
def Obligations.RestartKeepsTheWatch : Prop :=
  ∀ s : State,
    let fresh := (s.zoneRec 0).minFresh
    let level := s.screen.level
    let heaters := s.screenHeater.toList ++ (List.finRange 4).filter fun a =>
      decide ((s.chanRec (auxChan a)).type = .mirror)
    let told : List Instr :=
      .watchPosting s.screen.watch none ::
        ((List.finRange 4).flatMap fun a =>
          match (s.chanRec (auxChan a)).type with
          | .screen => [.dutyPosting (auxChan a) ⟨.screen, 0⟩]
          | .mirror => [.dutyPosting (auxChan a) ⟨.mirror, 0⟩]
          | .none | .convector _ | .curtain _ => []) ++
        heaters.map fun a => .auxRequestPosting a (s.heaterRequest a)
    exec .screenControllerRestart s =
      .next (({ s with screen := { s.screen with
          fan0 := 0
          fresh0 := fresh
          blower := if level = 0 then 0 else if level = 1 then 5 else 7
          dir := decide (level ≠ 0)
          flap := if level = 0 then fresh else if level = 1 then max fresh 60 else 100
          heaters := Tab.build fun a => { request := s.heaterRequest a, grant := 0, duty := 0 } } }).post told)

/-! ### Supply and operating mode (chapter 08) -/

/-- The allowance figure is the received allowance, at most the line maximum, while the status is CURRENT, and else the
fallback. The line allowance in force is the figure in LINE, in PARK at most the park limit, and 0 in every other
supply state; the aux allowance in force is the configured one, 0 while battery-low is asserted. ALLOWANCE: from DRIVER
or DEPOT DENIED; above 2000 BAD_FIELD; else stored as carried, CURRENT, with its timer restarted, the line allowance in
force posted where it changed and replied, ADJUSTED where the value exceeds the line maximum or, in PARK, the park
limit. The expiry of its timer begins a lapse: LAPSED, the changed allowance posted, ALLOWANCE_STALE (cause 6) pending.
-/
def Obligations.AllowancesAreTakenAndLapse : Prop :=
  (∀ s : State,
     (∀ n, s.supply.status = .current → s.supply.received = some n → s.figure = min n s.cfg.supply.lineMax) ∧
     (s.supply.status ≠ .current → s.figure = s.cfg.supply.fallback) ∧
     (s.supply.state = .line → s.supply.mode = .run → s.lineAllowance = s.figure) ∧
     (s.supply.state = .line → s.supply.mode = .park → s.lineAllowance = min s.figure s.cfg.supply.parkLimit) ∧
     (s.supply.state ≠ .line → s.lineAllowance = 0) ∧
     (s.supply.lowBat = true → s.auxAllowance = 0) ∧ (s.supply.lowBat = false → s.auxAllowance = s.cfg.supply.aux) ∧
     s.lineAllowance ≤ s.figure ∧ (CabinMapSound s → s.figure ≤ 1200)) ∧
  ((∀ (h : Header) (v : Word) (s : State),
     let u := s.taken 0x31 h [v.hi, v.lo]
     let r := s.cfg.supply
     let t := { u with supply := { s.supply with
       received := some v.toNat, status := .current, allowanceTimer := some (s.now + 1000 * r.timeout) } }
     if h.origin = .driver ∨ h.origin = .depot then exec (.allowance h v) s = .next (u.reply 0x31 .denied [])
     else if 2000 < v.toNat then exec (.allowance h v) s = .next (u.reply 0x31 .badField [])
     else
       exec (.allowance h v) s =
         .next ((t.post
           (if t.lineAllowance = s.lineAllowance then [] else [.allocatorAllowancePosting t.lineAllowance])).reply 0x31
           (if r.lineMax < v.toNat ∨ (s.supply.mode = .park ∧ r.parkLimit < v.toNat) then .adjusted else .done)
           (bytesOfWords [BitVec.ofNat 16 t.lineAllowance]))) ∧
   ∀ (s : State) (e : Nat), s.supply.allowanceTimer = some e →
       let t := { s with
         now := max s.now e
         link := { s.link with causes := s.link.causes ||| 0x20#8 }
         supply := { s.supply with status := .lapsed, allowanceTimer := none } }
       exec .allowanceExpiry s =
         .next (t.post
           (if t.lineAllowance = s.lineAllowance then [] else [.allocatorAllowancePosting t.lineAllowance])))

/-- A change of supply state is one event: the new state, its timers, the postings to the Order Table, the Allocator,
with the line allowance in force, and the four banks, and SUPPLY (cause 2) pending. A confirmed return leads to LINE,
the gap hold expiry to BATTERY, the pregap expiry to LINE; GAP_AHEAD leads from LINE to PREGAP, restarts the pregap
timer in PREGAP, does nothing in GAP and is WRONG_STATE in BATTERY, the reply carrying the state. A stopped timer does
not expire (log entry 3). -/
def Obligations.SupplyChangesInOneEvent : Prop :=
  ∀ s : State,
    (∀ x : SupplyState,
      let u := { s with
        link := { s.link with causes := s.link.causes ||| 0x02#8 }
        supply := { s.supply with
          state := x
          gapHoldTimer := if x = SupplyState.gap then some (s.now + 1000 * s.cfg.supply.gapHold) else none
          pregapTimer := if x = SupplyState.pregap then some (s.now + 1000 * s.cfg.supply.pregap) else none } }
      s.setSupply x =
        u.post [.conditionPosting (.supply x), .allocatorSupplyPosting x u.lineAllowance, .bankSupplyPosting 0 x,
          .bankSupplyPosting 1 x, .bankSupplyPosting 2 x, .bankSupplyPosting 3 x]) ∧
    (s.supply.confirmTimer = none → exec .confirmationExpiry s = .next s) ∧
    (s.supply.gapHoldTimer = none → exec .gapHoldExpiry s = .next s) ∧
    (s.supply.pregapTimer = none → exec .pregapExpiry s = .next s) ∧
    (s.supply.allowanceTimer = none → exec .allowanceExpiry s = .next s) ∧
    (∀ e,
      let u := { s with now := max s.now e }
      (s.supply.confirmTimer = some e → s.supply.state = .gap ∨ s.supply.state = .battery →
        exec .confirmationExpiry s =
          .next (({ u with supply := { s.supply with confirmTimer := none } }).setSupply .line)) ∧
      (s.supply.gapHoldTimer = some e → s.supply.state = .gap →
        exec .gapHoldExpiry s = .next (u.setSupply .battery)) ∧
      (s.supply.pregapTimer = some e → s.supply.state = .pregap →
        exec .pregapExpiry s = .next (u.setSupply .line))) ∧
    ∀ h : Header,
      let u := s.taken 0x32 h []
      if h.origin = .fleet ∨ h.origin = .service then
        exec (.gapAhead h) s = .next
          (match s.supply.state with
          | .line => (u.setSupply .pregap).reply 0x32 .done [0, 1]
          | .pregap =>
            ({ u with supply := { s.supply with
              pregapTimer := some (s.now + 1000 * s.cfg.supply.pregap) } }).reply 0x32 .done [0, 1]
          | .gap => u.reply 0x32 .done [0, 2]
          | .battery => u.reply 0x32 .wrongState [0, 3])
      else exec (.gapAhead h) s = .next (u.reply 0x32 .denied [])

/-- LINE_READING stores the reading, judges it by the window and the supply state (a loss, or the start, the course or
the end of a confirmation), then takes the level of BATLOW: a changed one is posted to the Order Table and the aux
allowance in force to the Allocator. The next reading is due 20 ms later. The line is judged before
BATLOW is sampled (log entry 38). -/
def Obligations.LineReadingsAreJudged : Prop :=
  ∀ (volts : Nat) (low : Bool) (s : State),
    let m := s.supply
    let r := s.cfg.supply
    let inside : Prop := r.low ≤ volts ∧ volts ≤ r.high
    let present : Prop := m.state = .line ∨ m.state = .pregap
    let confirm (x : Timer) : State :=
      { s with
        now := max s.now m.nextReading
        pins := { s.pins with vline := volts, batLow := low }
        supply := { m with lastReading := volts, nextReading := m.nextReading + 20, confirmTimer := x } }
    let sampled (t : State) : State :=
      if low = m.lowBat then t
      else ({ t with supply := { t.supply with lowBat := low } }).post
        [.conditionPosting (.batteryLow low), .auxAllowancePosting (if low then 0 else r.aux)]
    (inside → present → exec (.lineReading volts low) s = .next (sampled (confirm m.confirmTimer))) ∧
    (¬inside → present → exec (.lineReading volts low) s = .next (sampled ((confirm m.confirmTimer).setSupply .gap))) ∧
    (inside → ¬present → m.confirmTimer = none →
      exec (.lineReading volts low) s =
        .next (sampled (confirm (some (max s.now m.nextReading + r.confirm))))) ∧
    (inside → ¬present → m.confirmTimer ≠ none →
      exec (.lineReading volts low) s = .next (sampled (confirm m.confirmTimer))) ∧
    (¬inside → ¬present → exec (.lineReading volts low) s = .next (sampled (confirm none)))

/-- MODE is DENIED from DRIVER and BAD_FIELD but for 0 and 1. The mode held is answered DONE and changes nothing; a
PARK entry asks the Order Table to clear, a RUN entry posts it the mode, and each posts the mode and the line allowance
in force to the Allocator. RESTART sets PARK, keeps the rest, and posts the mode, the states and the allowances again.
That its postings are made in the order of R156's lists (log entry 17), and that each mode and supply posting to the
Allocator carries the line allowance in force with it (log entry 20), is the model's choice. -/
def Obligations.ModesAreEntered : Prop :=
  (∀ (h : Header) (v : Byte) (s : State),
    let u := s.taken 0x34 h [v]
    let entered (m : Mode) : State := { u with supply := { s.supply with mode := m } }
    if h.origin = .driver then exec (.mode h v) s = .next (u.reply 0x34 .denied [])
    else
      (1 < v.toNat → exec (.mode h v) s = .next (u.reply 0x34 .badField [])) ∧
      (v.toNat = 0 → exec (.mode h v) s = .next
        ((if s.supply.mode = .run then u
          else (entered .run).post
            [.orderTableModePosting .run, .allocatorModePosting .run (entered .run).lineAllowance]).reply 0x34 .done
          [0, 0])) ∧
      (v.toNat = 1 → exec (.mode h v) s = .next
        ((if s.supply.mode = .park then u
          else (entered .park).post
            [.orderTableParkClear, .allocatorModePosting .park (entered .park).lineAllowance]).reply 0x34 .done
          [0, 1]))) ∧
  ∀ s : State,
    let t := { s with supply := { s.supply with mode := .park } }
    exec .supplyMonitorRestart s =
      .next (t.post
        [.orderTableModePosting .park, .conditionPosting (.supply s.supply.state),
          .conditionPosting (.batteryLow s.supply.lowBat), .allocatorModePosting .park t.lineAllowance,
          .allocatorSupplyPosting s.supply.state t.lineAllowance, .auxAllowancePosting t.auxAllowance])

/-! ### Allocation (chapter 09) -/

/-- A reallocation of the line pool shares its allowance by class: zone 0 and the zones whose known Ta is below their
floor, then the curtains, then the other zones. A class whose effective requests (the lesser of request and available
heat) fit into what remains is granted them; one that does not is scaled to what remains, rounded down, and the later
ones get 0. Each grant that differs is posted, and nothing else. A reallocation of the aux pool shares its allowance
likewise: the SCREEN channel, then the MIRROR channels; an AUX channel of another type holds grant 0. -/
def Obligations.PoolsAreSharedByClass : Prop :=
  (∀ s : State,
     let e (z : ZoneId) : Nat := min (Tab.get s.alloc.zones z).request (Tab.get s.alloc.zones z).avail
     let c (d : DoorId) : Nat := min (Tab.get s.alloc.curtains d).request (Tab.get s.alloc.curtains d).avail
     let first (z : ZoneId) : Bool :=
       decide (z = 0) || match s.ta z, (s.target z).floor with | some ta, some f => decide (ta < f) | _, _ => false
     let t1 := ((List.finRange 8).map fun z => if first z then e z else 0).sum
     let t2 := ((List.finRange 6).map c).sum
     let t3 := ((List.finRange 8).map fun z => if first z then 0 else e z).sum
     let r1 := s.alloc.lineAllowance
     let r2 := if t1 ≤ r1 then r1 - t1 else 0
     let r3 := if t2 ≤ r2 then r2 - t2 else 0
     let t := s.recomputeLine
     let zone (z : ZoneId) : Nat :=
       if first z then if t1 ≤ r1 then e z else e z * r1 / t1 else if t3 ≤ r3 then e z else e z * r3 / t3
     let curtain (d : DoorId) : Nat := if t2 ≤ r2 then c d else c d * r2 / t2
     t = { s with
       alloc := { s.alloc with zones := t.alloc.zones, curtains := t.alloc.curtains }
       posts := t.posts } ∧
     (∀ z, Tab.get t.alloc.zones z = { Tab.get s.alloc.zones z with grant := zone z }) ∧
     (∀ d, Tab.get t.alloc.curtains d = { Tab.get s.alloc.curtains d with grant := curtain d }) ∧
     ∃ new, t.posts = s.posts ++ new ∧
       (∀ z n, .zoneGrant z n ∈ new ↔ n = zone z ∧ n ≠ (Tab.get s.alloc.zones z).grant) ∧
       (∀ d n, .curtainGrant d n ∈ new ↔ n = curtain d ∧ n ≠ (Tab.get s.alloc.curtains d).grant) ∧
       ∀ i ∈ new, (∃ z n, i = .zoneGrant z n) ∨ ∃ d n, i = .curtainGrant d n) ∧
  (∀ s : State,
     let e (a : AuxId) : Nat := min (Tab.get s.alloc.aux a).request (Tab.get s.alloc.aux a).avail
     let type (a : AuxId) : ChanType := (s.chanRec (auxChan a)).type
     let total (x : ChanType) : Nat := ((List.finRange 4).map fun a => if type a = x then e a else 0).sum
     let r1 := s.alloc.auxAllowance
     let r2 := if total .screen ≤ r1 then r1 - total .screen else 0
     let grant (a : AuxId) : Nat :=
       if type a = .screen then if total .screen ≤ r1 then e a else e a * r1 / total .screen
       else if type a = .mirror then if total .mirror ≤ r2 then e a else e a * r2 / total .mirror
       else 0
     let t := s.reallocAux
     t = { s with alloc := { s.alloc with aux := t.alloc.aux }, posts := t.posts } ∧
     (∀ a, Tab.get t.alloc.aux a = { Tab.get s.alloc.aux a with grant := grant a }) ∧
     ∃ new, t.posts = s.posts ++ new ∧
       (∀ a n, .auxGrant a n ∈ new ↔ n = grant a ∧ n ≠ (Tab.get s.alloc.aux a).grant) ∧
       ∀ i ∈ new, ∃ a n, i = .auxGrant a n)

/-- No reallocation grants a member more than its request or its available heat, and the grants of a pool sum to no
more than the pool's allowance. -/
def Obligations.PoolsNeverGrantTooMuch : Prop :=
  ∀ s : State,
    let t := s.recomputeLine
    let v := s.reallocAux
    (∀ z, (Tab.get t.alloc.zones z).grant ≤ (Tab.get s.alloc.zones z).request ∧
      (Tab.get t.alloc.zones z).grant ≤ (Tab.get s.alloc.zones z).avail) ∧
    (∀ d, (Tab.get t.alloc.curtains d).grant ≤ (Tab.get s.alloc.curtains d).request ∧
      (Tab.get t.alloc.curtains d).grant ≤ (Tab.get s.alloc.curtains d).avail) ∧
    (∀ a, (Tab.get v.alloc.aux a).grant ≤ (Tab.get s.alloc.aux a).request ∧
      (Tab.get v.alloc.aux a).grant ≤ (Tab.get s.alloc.aux a).avail) ∧
    ((List.finRange 8).map fun z => (Tab.get t.alloc.zones z).grant).sum +
      ((List.finRange 6).map fun d => (Tab.get t.alloc.curtains d).grant).sum ≤ s.alloc.lineAllowance ∧
    ((List.finRange 4).map fun a => (Tab.get v.alloc.aux a).grant).sum ≤ s.alloc.auxAllowance

/-- What the Allocator is posted is recorded, and causes a reallocation: a request or available heat that differs, and
every posting of an allowance, the supply state or the mode. A posting of available heat records every member it names
first, and then reallocates each pool in which one differs, once. The line pool is recomputed in LINE and BATTERY and held
in PREGAP and GAP, the aux pool is always recomputed. RESTART sets every request and grant to 0 and keeps the available
heat. -/
def Obligations.AllocatorTakesItsPostings : Prop :=
  ∀ s : State,
    let line (u : State) : State :=
      if u.alloc.supply = .line ∨ u.alloc.supply = .battery then u.recomputeLine else u
    let putZone (z : ZoneId) (x : PoolEntry) : State :=
      { s with alloc := { s.alloc with zones := Tab.put s.alloc.zones z x } }
    let putCurtain (d : DoorId) (x : PoolEntry) : State :=
      { s with alloc := { s.alloc with curtains := Tab.put s.alloc.curtains d x } }
    let putAux (a : AuxId) (x : PoolEntry) : State :=
      { s with alloc := { s.alloc with aux := Tab.put s.alloc.aux a x } }
    let zone (z : ZoneId) := Tab.get s.alloc.zones z
    let curtain (d : DoorId) := Tab.get s.alloc.curtains d
    let aux (a : AuxId) := Tab.get s.alloc.aux a
    (∀ z n,
      exec (.lineRequestPosting (.zone z) n) s =
        .next (if n = (zone z).request then s else line (putZone z { zone z with request := n }))) ∧
    (∀ d n,
      exec (.lineRequestPosting (.curtain d) n) s =
        .next (if n = (curtain d).request then s else line (putCurtain d { curtain d with request := n }))) ∧
    (∀ a n,
      exec (.auxRequestPosting a n) s =
        .next (if n = (aux a).request then s else (putAux a { aux a with request := n }).reallocAux)) ∧
    (∀ (x : PoolMember × Nat) (others : List (PoolMember × Nat)),
      let put (u : State) (y : PoolMember × Nat) : State :=
        match y.1 with
        | .line (.zone z) =>
          { u with alloc := { u.alloc with
            zones := Tab.put u.alloc.zones z { Tab.get u.alloc.zones z with avail := y.2 } } }
        | .line (.curtain d) =>
          { u with alloc := { u.alloc with
            curtains := Tab.put u.alloc.curtains d { Tab.get u.alloc.curtains d with avail := y.2 } } }
        | .aux a =>
          { u with alloc := { u.alloc with aux := Tab.put u.alloc.aux a { Tab.get u.alloc.aux a with avail := y.2 } } }
      let inLine (y : PoolMember × Nat) : Bool :=
        match y.1 with
        | .line (.zone z) => y.2 != (zone z).avail
        | .line (.curtain d) => y.2 != (curtain d).avail
        | .aux _ => false
      let inAux (y : PoolMember × Nat) : Bool :=
        match y.1 with
        | .line _ => false
        | .aux a => y.2 != (aux a).avail
      let recorded := (x :: others).foldl put s
      let shared := if (x :: others).any inLine = true then line recorded else recorded
      exec (.availableHeatPosting x others) s =
        .next (if (x :: others).any inAux = true then shared.reallocAux else shared)) ∧
    (∀ n, exec (.allocatorAllowancePosting n) s = .next (line { s with alloc := { s.alloc with lineAllowance := n } }) ∧
      exec (.auxAllowancePosting n) s = .next ({ s with alloc := { s.alloc with auxAllowance := n } }).reallocAux) ∧
    (∀ x n, exec (.allocatorSupplyPosting x n) s =
      .next (line { s with alloc := { s.alloc with supply := x, lineAllowance := n } })) ∧
    (∀ m n, exec (.allocatorModePosting m n) s =
      .next (line { s with alloc := { s.alloc with mode := m, lineAllowance := n } })) ∧
    exec .allocatorRestart s =
      .next { s with alloc := { s.alloc with
        zones := Tab.build fun z => { request := 0, avail := (zone z).avail, grant := 0 }
        curtains := Tab.build fun d => { request := 0, avail := (curtain d).avail, grant := 0 }
        aux := Tab.build fun a => { request := 0, avail := (aux a).avail, grant := 0 } } }

/-! ### Heater banks and output channels (chapter 09) -/

/-- A bank has work, and an OPEN one is eligible, while one of its channels is not DISABLED and has a posted duty above
0. The test of eligibility brings an OPEN bank in LINE to PRECHARGE; the idle timer of a CLOSED bank is stopped with
work and runs without it, keeping its expiry where it runs already (log entry 15). What an event posts of its changes
of availability and rated power, from the state before it, in this order: a changed Pinst to each zone, one posting of
the changed curtains to the Doorway Monitor, a changed AUX channel to the Screen Controller, and one posting of the
changed available heats of all members to the Allocator; and nothing else. A channel is available while it is enabled, its sensor is not LOST and its bank is in neither FAULT
nor LOCKED. -/
def Obligations.BanksTestWorkAndPostAvailability : Prop :=
  (∀ (b : BankId) (s : State),
     let x := s.bank b
     let r := s.bankRec b
     (s.hasWork b = true ↔ ∃ c, bankOf c = some b ∧ (s.chanRec c).enabled = true ∧ (s.chan c).surface ≠ .lost ∧
       0 < (s.chan c).duty) ∧
     s.testEligible b =
       (if x.state = .opened ∧ s.hasWork b = true ∧ x.supply = .line then
         s.setBank b { x with
           state := .precharge
           prechargeTimer := some (s.now + r.precharge)
           ocRecorded := Tab.get s.pins.oc b
           restartPending := false }
       else s) ∧
     (x.state ≠ .closed → s.updateIdle b = s) ∧
     (x.state = .closed → s.hasWork b = true → s.updateIdle b = s.setBank b { x with idleTimer := none }) ∧
     (x.state = .closed → s.hasWork b = false →
       (∀ e, x.idleTimer = some e → s.updateIdle b = s) ∧
       (x.idleTimer = none → s.updateIdle b = s.setBank b { x with idleTimer := some (s.now + 1000 * r.idle) }))) ∧
  (∀ s old : State,
     let heat (u : State) (m : PoolMember) : Nat :=
       match m with
       | .line (.zone z) => u.pinstNow z
       | .line (.curtain d) =>
         match u.curtainChan d with
         | some c => if u.available c = true then (u.chanRec c).rated else 0
         | none => 0
       | .aux a =>
         let r := u.chanRec (auxChan a)
         if (r.type = .screen ∨ r.type = .mirror) ∧ u.available (auxChan a) = true then r.rated else 0
     let curtain (u : State) (d : DoorId) := (u.curtainChan d).map fun c => (c, (u.chanRec c).rated, u.available c)
     let aux (u : State) (a : AuxId) :=
       ((u.chanRec (auxChan a)).type, (u.chanRec (auxChan a)).rated, (u.chanRec (auxChan a)).enabled,
         u.available (auxChan a))
     (∀ c, s.available c = true ↔ (s.chanRec c).enabled = true ∧ (s.chan c).surface ≠ .lost ∧
       ∀ b, bankOf c = some b → (s.bank b).state ≠ .fault ∧ (s.bank b).state ≠ .locked) ∧
     let zones := (List.finRange 8).filter fun z => decide (s.pinstNow z ≠ old.pinstNow z)
     let doors := (List.finRange 6).filter fun d => decide (curtain s d ≠ curtain old d)
     let auxes := (List.finRange 4).filter fun a => decide (aux s a ≠ aux old a)
     let members : List PoolMember := (List.finRange 8).map (fun z => .line (.zone z)) ++
       (List.finRange 6).map (fun d => .line (.curtain d)) ++ (List.finRange 4).map .aux
     let heats := (members.filter fun m => decide (heat s m ≠ heat old m)).map fun m => (m, heat s m)
     s.postAvail old = s.post
       (zones.map .pinstPosting ++ (if doors = [] then [] else [.curtainChannelPosting doors]) ++
         auxes.map .auxChannelPosting ++
         match heats with | [] => [] | x :: others => [.availableHeatPosting x others]))

/-- DUTY_POSTING is stored where the consumer that posted it owns the channel by its present type, and else changes no
duty: so a channel of type NONE keeps 0, and a reconfigured one holds 0 until its new consumer posts (log entry 14). The
channel's bank then tests its eligibility and its idle timer. A reconfigured channel has its consumer post its present
duty; the posting of one that has become NONE, SCREEN or MIRROR since has no effect, by the model's choice (log entry
22). SURFACE_POSTING is stored and judged against the limit: above it overheated, more than 10.0 K below it not, lost or absent not, between them as it was; the
bank follows, its eligibility tested where the channel left DISABLED, and a changed availability is posted. -/
def Obligations.DutiesAndSurfacesReachTheChannels : Prop :=
  ∀ (c : ChanId) (s : State),
    let x := s.chan c
    let r := s.chanRec c
    (∀ n : PostedDuty,
      let owned : Bool :=
        match r.type with
        | .none => false
        | .convector z => decide (n.poster = .zone z)
        | .curtain d => decide (n.poster = .doorway d)
        | .screen => decide (n.poster = .screen)
        | .mirror => decide (n.poster = .mirror)
      let u := if owned = true then s.setChan c { x with duty := n.duty } else s
      (bankOf c = none → exec (.dutyPosting c n) s = .next u) ∧
      ∀ b, bankOf c = some b → exec (.dutyPosting c n) s = .next ((u.testEligible b).updateIdle b)) ∧
    (∀ z, r.type = .convector z →
      exec (.channelReconfiguredPosting c) s = .next (s.post [.dutyPosting c ⟨.zone z, (s.reg z).duty⟩])) ∧
    (∀ d, r.type = .curtain d →
      exec (.channelReconfiguredPosting c) s = .next (s.post [.dutyPosting c ⟨.doorway d, (s.door d).duty⟩])) ∧
    (r.type = .none ∨ r.type = .screen ∨ r.type = .mirror → exec (.channelReconfiguredPosting c) s = .next s) ∧
    ∀ v : Surface,
      let hot := match v with
        | .noSensor | .lost => false
        | .reading t => if r.limit < t then true else if t < r.limit - 100 then false else x.overheated
      let u := s.setChan c { x with surface := v, overheated := hot }
      (bankOf c = none → exec (.surfacePosting c v) s = .next (u.postAvail s)) ∧
      ∀ b, bankOf c = some b →
        exec (.surfacePosting c v) s =
          .next (((if r.enabled = true ∧ x.surface = .lost ∧ v ≠ .lost then u.testEligible b else u).updateIdle
            b).postAvail s)

/-- BANK_SUPPLY_POSTING is stored and acted on by the bank's state as the table of R167 gives: an OPEN bank tests its
eligibility, CLOSED goes to HOLD in PREGAP and GAP, CLOSED and HOLD open in BATTERY, HOLD closes in LINE at ramp
position 0. OVERCURRENT takes the level of OCb; an assertion is recorded in PRECHARGE, opens a CLOSED or HOLD bank
towards FAULT, and turns the outcome OPEN of an OPENING into FAULT. RESTART reaches every bank in its present state:
the fault counts become 0, a PRECHARGE is marked, CLOSED and HOLD open towards OPEN, an outcome FAULT becomes OPEN,
FAULT becomes OPEN, OPEN and LOCKED stay; a bank that leaves FAULT changes the availability of its channels, which is
posted. OVERCURRENT carries a level, of which a
release does nothing more (log entry 18). -/
def Obligations.BanksFollowTheirPostings : Prop :=
  (∀ (b : BankId) (s : State),
     let r := s.bankRec b
     let opening (x : Bank) (o : OpeningOutcome) : Bank :=
       { x with
         state := .opening, ramp := 0, prechargeTimer := none, rampTimer := none, idleTimer := none
         openingTimer := some (s.now + r.opening), outcome := o }
     (∀ v : SupplyState,
       let x := { s.bank b with supply := v }
       exec (.bankSupplyPosting b v) s = .next
         (match x.state, v with
         | .opened, _ => (s.setBank b x).testEligible b
         | .closed, .pregap | .closed, .gap =>
           s.setBank b { x with
             state := .hold, ramp := 0, prechargeTimer := none, rampTimer := none, idleTimer := none }
         | .closed, .battery | .hold, .battery => s.setBank b (opening x .opened)
         | .hold, .line =>
           s.setBank b { x with
             state := .closed, ramp := 0, prechargeTimer := none
             rampTimer := some (s.now + r.ramp)
             idleTimer := if s.hasWork b = true then none else some (s.now + 1000 * r.idle) }
         | _, _ => s.setBank b x)) ∧
     ∀ level : Bool,
       let u := { s with pins := { s.pins with oc := Tab.put s.pins.oc b level } }
       let x := s.bank b
       (level = false → exec (.overcurrent b level) s = .next u) ∧
       (level = true → exec (.overcurrent b level) s = .next
         (match x.state with
         | .precharge => u.setBank b { x with ocRecorded := true }
         | .closed | .hold => u.setBank b (opening x .fault)
         | .opening => u.setBank b { x with outcome := if x.outcome = .opened then .fault else x.outcome }
         | .opened | .fault | .locked => u))) ∧
  (∀ s : State,
     let after (b : BankId) : Bank :=
       let x := { s.bank b with faults := 0 }
       match x.state with
       | .opened | .locked => x
       | .precharge => { x with restartPending := true }
       | .closed | .hold =>
         { x with
           state := .opening, ramp := 0, prechargeTimer := none, rampTimer := none, idleTimer := none
           openingTimer := some (s.now + (s.bankRec b).opening), outcome := .opened }
       | .opening => { x with outcome := if x.outcome = .fault then .opened else x.outcome }
       | .fault => { x with state := .opened }
     exec .bankControllerRestart s = .next (({ s with banks := Tab.build after }).postAvail s))

/-- A precharge completes, with the link reading stored, by the first case of R166 that applies: RESTART pending,
overcurrent recorded, GAP or BATTERY, the link below 90 % of the last line reading, else CLOSED in LINE and HOLD in
PREGAP. RAMP_EXPIRY admits the next group, and restarts the timer below position 8; IDLE_EXPIRY opens the bank. An
opening that completes towards FAULT counts a fault, enters LOCKED at the third and else FAULT, raises BANK_FAULT
(cause 1) and posts the change of availability; towards LOCKED it keeps the count; towards OPEN it tests eligibility at
once. A stopped timer does not expire (log entry 3). -/
def Obligations.BankOperationsComplete : Prop :=
  (∀ (b : BankId) (link : Nat) (s : State),
     ((s.bank b).prechargeTimer = none → exec (.prechargeCompletion b link) s = .next s) ∧
     ∀ e, (s.bank b).prechargeTimer = some e → (s.bank b).state = .precharge →
       let r := s.bankRec b
       let u := { s with now := max s.now e, pins := { s.pins with vlink := Tab.put s.pins.vlink b link } }
       let x := { s.bank b with lastLink := link, prechargeTimer := none, ramp := 0 }
       let opening (o : OpeningOutcome) : Bank :=
         { x with
           state := .opening, rampTimer := none, idleTimer := none
           openingTimer := some (u.now + r.opening), outcome := o }
       exec (.prechargeCompletion b link) s = .next (u.setBank b
         (if x.restartPending = true then opening .opened
         else if x.ocRecorded = true then opening .fault
         else if x.supply = .gap ∨ x.supply = .battery then opening .opened
         else if 10 * link < 9 * s.supply.lastReading then opening .fault
         else if x.supply = .line then
           { x with
             state := .closed
             rampTimer := some (u.now + r.ramp)
             idleTimer := if s.hasWork b = true then none else some (u.now + 1000 * r.idle) }
         else { x with state := .hold, rampTimer := none, idleTimer := none }))) ∧
  (∀ (b : BankId) (s : State),
     let x := s.bank b
     let r := s.bankRec b
     (x.rampTimer = none → exec (.rampExpiry b) s = .next s) ∧ (x.idleTimer = none → exec (.idleExpiry b) s = .next s) ∧
     (x.openingTimer = none → exec (.openingCompletion b) s = .next s) ∧
     ∀ e,
       let u := { s with now := max s.now e }
       (x.rampTimer = some e → x.state = .closed → x.ramp < 8 →
         exec (.rampExpiry b) s = .next (u.setBank b { x with
           ramp := x.ramp + 1, rampTimer := if x.ramp + 1 = 8 then none else some (u.now + r.ramp) })) ∧
       (x.idleTimer = some e → x.state = .closed →
         exec (.idleExpiry b) s = .next (u.setBank b { x with
           state := .opening, ramp := 0, prechargeTimer := none, rampTimer := none, idleTimer := none
           openingTimer := some (u.now + r.opening), outcome := .opened })) ∧
       (x.openingTimer = some e → x.state = .opening →
         (x.outcome = .opened → exec (.openingCompletion b) s =
           .next ((u.setBank b { x with state := .opened, openingTimer := none }).testEligible b)) ∧
         (x.outcome = .locked → exec (.openingCompletion b) s =
           .next ((u.setBank b { x with state := .locked, openingTimer := none }).postAvail s)) ∧
         (x.outcome = .fault → x.faults < 3 → exec (.openingCompletion b) s =
           .next ((({ u with link := { s.link with causes := s.link.causes ||| 0x01#8 } }).setBank b { x with
             state := if x.faults + 1 = 3 then .locked else .fault
             openingTimer := none
             faults := x.faults + 1 }).postAvail s))))

/-- BANK_LOCK, BANK_UNLOCK and BANK_CLEAR are DENIED but from SERVICE and BAD_FIELD above bank 3; else they act by the
bank's state as the table of R171 gives, a taken one replying DONE with the state after it, a refused one changing
nothing. From FAULT to LOCKED no availability changes and nothing is posted, from FAULT or LOCKED to OPEN that of the
bank's channels comes back. -/
def Obligations.BankCommandsActByState : Prop :=
  ∀ (h : Header) (n : Byte) (s : State),
    let lock := exec (.bankLock h n) s
    let unlock := exec (.bankUnlock h n) s
    let clear := exec (.bankClear h n) s
    let u := s.taken 0x50 h [n]
    let v := s.taken 0x51 h [n]
    let w := s.taken 0x52 h [n]
    (h.origin ≠ .service → lock = .next (u.reply 0x50 .denied []) ∧ unlock = .next (v.reply 0x51 .denied []) ∧
      clear = .next (w.reply 0x52 .denied [])) ∧
    (h.origin = .service → 3 < n.toNat → lock = .next (u.reply 0x50 .badField []) ∧
      unlock = .next (v.reply 0x51 .badField []) ∧ clear = .next (w.reply 0x52 .badField [])) ∧
    (h.origin = .service → ∀ b : BankId, n.toNat = b.val →
      let x := s.bank b
      let done (code : Byte) (t : State) : State :=
        t.reply code .done [0, match (t.bank b).state with
          | .opened => 0 | .precharge => 1 | .closed => 2 | .hold => 3 | .opening => 4 | .fault => 5 | .locked => 6]
      lock = .next
        (match x.state with
        | .opened | .fault => done 0x50 ((u.setBank b { x with state := .locked, openingTimer := none }).postAvail s)
        | .closed | .hold => done 0x50 (u.setBank b { x with
            state := .opening, ramp := 0, prechargeTimer := none, rampTimer := none, idleTimer := none
            openingTimer := some (s.now + (s.bankRec b).opening), outcome := .locked })
        | .precharge | .opening => u.reply 0x50 .busy []
        | .locked => u.reply 0x50 .wrongState []) ∧
      unlock = .next
        (match x.state with
        | .locked =>
          done 0x51 (((v.setBank b { x with state := .opened, openingTimer := none, faults := 0 }).postAvail
            s).testEligible b)
        | .opened | .precharge | .closed | .hold | .opening | .fault => v.reply 0x51 .wrongState []) ∧
      clear = .next
        (match x.state with
        | .fault =>
          done 0x52 (((w.setBank b { x with state := .opened, openingTimer := none }).postAvail s).testEligible b)
        | .precharge | .opening => w.reply 0x52 .busy []
        | .opened | .closed | .hold | .locked => w.reply 0x52 .wrongState []) ∧
      (x.state = .fault → ∀ t, lock = .next t → t.posts = s.posts ∧ ∀ c, t.available c = s.available c) ∧
      ∀ t, unlock = .next t ∧ x.state = .locked ∨ clear = .next t ∧ x.state = .fault →
        ∀ c, bankOf c = some b → (t.available c = true ↔ (s.chanRec c).enabled = true ∧ (s.chan c).surface ≠ .lost))

/-- A channel is DISABLED while it is not enabled or its sensor is LOST, LIVE exactly while it is not, is not overheated,
and, for a bank channel, its bank is CLOSED, its group is below the ramp position and the supply state is LINE, and
MASKED otherwise; the reasons that mask it are a set of four bits. It drives its posted duty, scaled by L over S where
the S of its pool's LIVE channels exceeds L, and nothing unless LIVE; CHn is on for what it drives. KPREb is asserted in
PRECHARGE and KMAINb in CLOSED and HOLD. FAN0 carries the cab blower level, the FAN output of every other zone the
zone's fan level. -/
def Obligations.ChannelsDriveWhileLive : Prop :=
  ∀ (c : ChanId) (s : State),
    let pool (d : ChanId) : Prop := (d.val < 32 ↔ c.val < 32) ∧ s.live d = true
    let sum := ((List.finRange 36).map fun d =>
      if (d.val < 32 ↔ c.val < 32) ∧ s.live d = true then (s.chanRec d).rated * (s.chan d).duty else 0).sum
    let limit := 1000 * (if c.val < 32 then s.lineAllowance else s.auxAllowance)
    (s.live c = true ↔ (s.chanRec c).enabled = true ∧ (s.chan c).surface ≠ .lost ∧ (s.chan c).overheated = false ∧
      ∀ b, bankOf c = some b →
        (s.bank b).state = .closed ∧ (s.chanRec c).group < (s.bank b).ramp ∧ s.supply.state = .line) ∧
    (∀ b : BankId, bankOf c = some b ↔ c.val / 8 = b.val) ∧
    (pool c → sum ≤ limit → s.drivenDuty c = (s.chan c).duty) ∧
    (pool c → limit < sum → s.drivenDuty c = (s.chan c).duty * limit / sum) ∧
    (s.live c = false → s.drivenDuty c = 0) ∧ s.chOutput c = s.drivenDuty c ∧
    s.chanState c =
      (if (s.chanRec c).enabled = false ∨ (s.chan c).surface = .lost then .disabled
      else if s.live c = true then .live else .masked) ∧
    s.maskReasons c = (if (s.chan c).overheated = true then 4 else 0) +
      (match bankOf c with
      | none => 0
      | some b =>
        (if (s.bank b).state = .closed then 0 else 1) + (if (s.chanRec c).group < (s.bank b).ramp then 0 else 2) +
          (if s.supply.state = .line then 0 else 8)) ∧
    (∀ b : BankId,
      (s.kpre b = true ↔ (s.bank b).state = .precharge) ∧
      (s.kmain b = true ↔ (s.bank b).state = .closed ∨ (s.bank b).state = .hold)) ∧
    ∀ z : ZoneId, s.fanOutput z = if z = 0 then s.screen.blower else (s.reg z).fan

/-- In every state, the LIVE bank channels draw no more than the line allowance in force and the LIVE AUX channels no
more than the aux allowance in force: the sum of rated power times driven duty is at most 1000 times the allowance. -/
def Obligations.DrawNeverExceedsTheAllowance : Prop :=
  ∀ s : State,
    ((List.finRange 36).map fun c =>
      if c.val < 32 then (s.chanRec c).rated * s.drivenDuty c else 0).sum ≤ 1000 * s.lineAllowance ∧
    ((List.finRange 36).map fun c =>
      if 32 ≤ c.val then (s.chanRec c).rated * s.drivenDuty c else 0).sum ≤ 1000 * s.auxAllowance

/-! ### The cabin map (chapter 01) and power-on -/

/-- The words of a record, read and clamped by its table: a section, type, role, origin, flag or zone set out of its
values, or a structural constraint that fails, gives none; else every number is clamped to its range (a fallback to the
line maximum too), and the record counts as adjusted exactly where a number differs from the one carried. A type or role word
whose kind takes no object and whose low byte is not 0 (log entry 6), and a set of zones above 255 (log entry 7), are
taken as out of their values. A channel's type fits it by R8: CONVECTOR and CURTAIN a bank channel, SCREEN and MIRROR an
AUX channel, one bank channel alone for each CURTAIN(d) and one AUX channel alone for SCREEN. -/
def Obligations.RecordsAreReadByTheirTables : Prop :=
  (∀ (z : ZoneId) (w : ZoneWords),
    (zoneRecOf z w = none ↔ 2 < w.sect.toNat ∨ (z = 0 ∧ w.sect.toNat ≠ 0)) ∧
    ∀ r adjusted, zoneRecOf z w = some (r, adjusted) →
      [Section.a, .b, .c][w.sect.toNat]? = some r.sect ∧
      [r.setpoint, r.bandMin, r.bandMax] = [max 100 (min 300 w.setpoint.toInt), max 50 (min 200 w.bandMin.toInt),
        max 160 (min 300 w.bandMax.toInt)] ∧
      [r.kp, r.ki, r.kf, r.kd, r.ko, r.minFresh, r.interval].map Int.ofNat =
        [max 0 (min 500 w.kp.toInt), max 0 (min 255 w.ki.toInt), max 0 (min 100 w.kf.toInt), max 0 (min 50 w.kd.toInt),
          max 0 (min 50 w.ko.toInt), max 0 (min 100 w.minFresh.toInt), max 1 (min 10 w.interval.toInt)] ∧
      (adjusted = false ↔ [r.setpoint, r.bandMin, r.bandMax] ++
          [r.kp, r.ki, r.kf, r.kd, r.ko, r.minFresh, r.interval].map Int.ofNat =
        [w.setpoint.toInt, w.bandMin.toInt, w.bandMax.toInt, w.kp.toInt, w.ki.toInt, w.kf.toInt, w.kd.toInt,
          w.ko.toInt, w.minFresh.toInt, w.interval.toInt])) ∧
  (∀ w : DoorWords,
    (doorRecOf w = none ↔ w.zones.toNat = 0 ∨ 255 < w.zones.toNat ∨ 1 < w.noHold.toNat) ∧
    ∀ r adjusted, doorRecOf w = some (r, adjusted) →
      r.zones.toNat = w.zones.toNat ∧ (r.noHold = true ↔ w.noHold.toNat = 1) ∧
      [r.debounce, r.tail, r.hold, r.cap, r.faultDelay].map Int.ofNat =
        [max 50 (min 1000 w.debounce.toInt), max 5 (min 120 w.tail.toInt), max 30 (min 600 w.hold.toInt),
          max 0 (min 100 w.cap.toInt), max 1 (min 30 w.faultDelay.toInt)] ∧
      (adjusted = false ↔ [r.debounce, r.tail, r.hold, r.cap, r.faultDelay].map Int.ofNat =
        [w.debounce.toInt, w.tail.toInt, w.hold.toInt, w.cap.toInt, w.faultDelay.toInt])) ∧
  (∀ (c : ChanId) (w : ChanWords) (s : State),
    let named (t : ChanType) : Prop :=
      w.type.toNat = match t with
        | .none => 0 | .convector z => 256 + z.val | .curtain d => 512 + d.val | .screen => 768 | .mirror => 1024
    let fits (t : ChanType) : Prop :=
      match t with
      | .none => True
      | .convector _ => c.val < 32
      | .curtain d => c.val < 32 ∧ ∀ c' : ChanId, c' ≠ c → c'.val < 32 → (s.chanRec c').type ≠ .curtain d
      | .screen => 32 ≤ c.val ∧ ∀ c' : ChanId, c' ≠ c → 32 ≤ c'.val → (s.chanRec c').type ≠ .screen
      | .mirror => 32 ≤ c.val
    (s.chanRecOf c w = none ↔ 1 < w.enabled.toNat ∨ ∀ t, named t → ¬fits t) ∧
    ∀ r adjusted, s.chanRecOf c w = some (r, adjusted) →
      named r.type ∧ fits r.type ∧ (r.enabled = true ↔ w.enabled.toNat = 1) ∧
      [Int.ofNat r.rated, Int.ofNat r.group, r.limit] =
        [max 0 (min 100 w.rated.toInt), max 0 (min 7 w.group.toInt), max 200 (min 2000 w.limit.toInt)] ∧
      (adjusted = false ↔
        [Int.ofNat r.rated, Int.ofNat r.group, r.limit] = [w.rated.toInt, w.group.toInt, w.limit.toInt])) ∧
  (∀ (k : SensorId) (w : SensorWords) (s : State),
    let named (t : Role) : Prop :=
      w.role.toNat = match t with
        | .unused => 0 | .lineUnused => 256 | .zoneAir z => 512 + z.val | .surface c => 768 + c.val | .outside => 1024
        | .glass => 1280 | .cabHumidity => 1536
    let others (t : Role) : Nat :=
      ((List.finRange 32).map fun j => if j ≠ k ∧ (s.sensorRec j).role = t then 1 else 0).sum
    let fits (t : Role) : Prop :=
      t = (s.sensorRec k).role ∨
        match t with
        | .zoneAir _ => others t ≤ 2
        | .surface _ | .glass | .cabHumidity => others t = 0
        | .unused | .lineUnused | .outside => True
    (s.sensorRecOf k w = none ↔ 1 < w.origin.toNat ∨ ∀ t, named t → ¬fits t) ∧
    ∀ r adjusted, s.sensorRecOf k w = some (r, adjusted) →
      named r.role ∧ fits r.role ∧ (r.origin = .external ↔ w.origin.toNat = 1) ∧
      [r.hold, r.run].map Int.ofNat = [max 5 (min 300 w.hold.toInt), max 1 (min 8 w.run.toInt)] ∧
      (adjusted = false ↔ [r.hold, r.run].map Int.ofNat = [w.hold.toInt, w.run.toInt])) ∧
  (∀ w : BankWords,
    let r := (bankRecOf w).1
    [r.precharge, r.opening, r.idle, r.ramp].map Int.ofNat =
      [max 100 (min 2000 w.precharge.toInt), max 100 (min 1000 w.opening.toInt), max 10 (min 600 w.idle.toInt),
        max 50 (min 2000 w.ramp.toInt)] ∧
    ((bankRecOf w).2 = false ↔ [r.precharge, r.opening, r.idle, r.ramp].map Int.ofNat =
      [w.precharge.toInt, w.opening.toInt, w.idle.toInt, w.ramp.toInt])) ∧
  (∀ w : SupplyWords,
    let r := (supplyRecOf w).1
    let l := [r.low, r.high, r.confirm, r.gapHold, r.pregap, r.lineMax, r.parkLimit, r.timeout, r.fallback, r.aux].map
      Int.ofNat
    l = [max 200 (min 800 w.low.toInt), max 500 (min 1000 w.high.toInt), max 100 (min 5000 w.confirm.toInt),
        max 1 (min 30 w.gapHold.toInt), max 2 (min 60 w.pregap.toInt), max 0 (min 1200 w.lineMax.toInt),
        max 0 (min 1200 w.parkLimit.toInt), max 1 (min 10 w.timeout.toInt),
        min (max 0 (min 1200 w.fallback.toInt)) (max 0 (min 1200 w.lineMax.toInt)), max 0 (min 100 w.aux.toInt)] ∧
    ((supplyRecOf w).2 = false ↔ l =
      [w.low.toInt, w.high.toInt, w.confirm.toInt, w.gapHold.toInt, w.pregap.toInt, w.lineMax.toInt,
        w.parkLimit.toInt, w.timeout.toInt, w.fallback.toInt, w.aux.toInt])) ∧
  (∀ w : ScreenWords,
    let r := (screenRecOf w).1
    let l := [r.risk, r.fog, r.hyst, r.ice, Int.ofNat r.dwell]
    l = [max 10 (min 200 w.risk.toInt), max 0 (min 100 w.fog.toInt), max 5 (min 50 w.hyst.toInt),
        max (-100) (min 100 w.ice.toInt), max 10 (min 600 w.dwell.toInt)] ∧
    ((screenRecOf w).2 = false ↔
      l = [w.risk.toInt, w.fog.toInt, w.hyst.toInt, w.ice.toInt, w.dwell.toInt])) ∧
  ∀ w : LimitsWords,
    (limitsRecOf w = none ↔ 255 < w.mask.toNat) ∧
    ∀ r adjusted, limitsRecOf w = some (r, adjusted) →
      let l := [r.bandMin, r.bandMax, r.frost, r.warm, r.floor, Int.ofNat r.scan]
      r.mask.toNat = w.mask.toNat ∧
      l = [max 100 (min 300 w.bandMin.toInt), max 100 (min 300 w.bandMax.toInt), max (-200) (min 100 w.frost.toInt),
          max 100 (min 350 w.warm.toInt), max 0 (min 150 w.floor.toInt), max 100 (min 2000 w.scan.toInt)] ∧
      (adjusted = false ↔
        l = [w.bandMin.toInt, w.bandMax.toInt, w.frost.toInt, w.warm.toInt, w.floor.toInt, w.scan.toInt])

/-- CONFIGURE from FLEET or SERVICE makes the checks of R1 in their order: the kind and index, the enumerated and
structural fields, after the clamps the cross-field check, each BAD_FIELD, and the state check of R7 and R9, BUSY. A
record that passes them is applied and replied to ADJUSTED where a field was clamped, else DONE. A payload of an unknown record kind is carried by CONFIGURE_ZONE (log entry 16), and the reply's payload is empty (log
entry 11). -/
def Obligations.ConfigureChecksInOrder : Prop :=
  ∀ (h : Header) (i : Byte) (s : State), h.origin = .fleet ∨ h.origin = .service →
    let u (payload : List Byte) : State := s.taken 0x40 h payload
    let bad (payload : List Byte) : Host.Outcome State Fault Refusal := .next ((u payload).reply 0x40 .badField [])
    let busy (payload : List Byte) : Host.Outcome State Fault Refusal := .next ((u payload).reply 0x40 .busy [])
    let taken (t : State) (adjusted : Bool) : Host.Outcome State Fault Refusal :=
      .next (t.reply 0x40 (if adjusted then .adjusted else .done) [])
    (∀ kind rest, exec (.configureZone h (.unknownKind kind rest)) s = bad (kind :: rest)) ∧
    (∀ w : ZoneWords,
      let p := 0 :: i :: bytesOfWords w.words
      let run := exec (.configureZone h (.record i w)) s
      (8 ≤ i.toNat → run = bad p) ∧
      ∀ z : ZoneId, i.toNat = z.val →
        (zoneRecOf z w = none → run = bad p) ∧
        ∀ r adjusted, zoneRecOf z w = some (r, adjusted) →
          run = if r.bandMin ≤ r.bandMax then taken ((u p).applyZone z r) adjusted else bad p) ∧
    (∀ w : DoorWords,
      let p := 1 :: i :: bytesOfWords w.words
      let run := exec (.configureDoorway h i w) s
      (6 ≤ i.toNat → run = bad p) ∧
      ∀ d : DoorId, i.toNat = d.val →
        (doorRecOf w = none → run = bad p) ∧
        ∀ r adjusted, doorRecOf w = some (r, adjusted) →
          run = if (s.door d).state = .held ∧ r.zones ≠ (s.doorRec d).zones then busy p
            else taken ((u p).applyDoor d r) adjusted) ∧
    (∀ w : ChanWords,
      let p := 2 :: i :: bytesOfWords w.words
      let run := exec (.configureChannel h i w) s
      (36 ≤ i.toNat → run = bad p) ∧
      ∀ c : ChanId, i.toNat = c.val →
        (s.chanRecOf c w = none → run = bad p) ∧
        ∀ r adjusted, s.chanRecOf c w = some (r, adjusted) →
          let old := s.chanRec c
          let working : Prop := ∃ b, bankOf c = some b ∧ ((s.bank b).state = .precharge ∨ (s.bank b).state = .closed ∨
            (s.bank b).state = .hold ∨ (s.bank b).state = .opening)
          (r.type = .none ∧ r.enabled = true → run = bad p) ∧
          (¬(r.type = .none ∧ r.enabled = true) →
            (working ∧ (r.type ≠ old.type ∨ r.rated ≠ old.rated ∨ r.group ≠ old.group) → run = busy p) ∧
            (¬(working ∧ (r.type ≠ old.type ∨ r.rated ≠ old.rated ∨ r.group ≠ old.group)) →
              run = taken ((u p).applyChan c r) adjusted))) ∧
    (∀ w : SensorWords,
      let p := 3 :: i :: bytesOfWords w.words
      let run := exec (.configureSensor h i w) s
      (32 ≤ i.toNat → run = bad p) ∧
      ∀ k : SensorId, i.toNat = k.val →
        (s.sensorRecOf k w = none → run = bad p) ∧
        ∀ r adjusted, s.sensorRecOf k w = some (r, adjusted) → run = taken ((u p).applySensor k r) adjusted) ∧
    (∀ w : BankWords,
      let p := 4 :: i :: bytesOfWords w.words
      let run := exec (.configureBank h i w) s
      (4 ≤ i.toNat → run = bad p) ∧
      ∀ b : BankId, i.toNat = b.val →
        run = taken { u p with cfg := { s.cfg with banks := Tab.put s.cfg.banks b (bankRecOf w).1 } } (bankRecOf w).2) ∧
    (∀ w : SupplyWords,
      let p := 5 :: i :: bytesOfWords w.words
      let r := (supplyRecOf w).1
      exec (.configureSupply h i w) s =
        if i.toNat = 0 ∧ r.low < r.high then taken ((u p).applySupply 0 r) (supplyRecOf w).2 else bad p) ∧
    (∀ w : ScreenWords,
      let p := 6 :: i :: bytesOfWords w.words
      let r := (screenRecOf w).1
      exec (.configureScreen h i w) s =
        if i.toNat = 0 ∧ r.fog < r.risk then taken ((u p).applyScreen 0 r) (screenRecOf w).2 else bad p) ∧
    ∀ w : LimitsWords,
      let p := 7 :: i :: bytesOfWords w.words
      let run := exec (.configureLimits h i w) s
      (i.toNat ≠ 0 ∨ limitsRecOf w = none → run = bad p) ∧
      ∀ r adjusted, i.toNat = 0 → limitsRecOf w = some (r, adjusted) →
        run = if r.bandMin ≤ r.bandMax then taken ((u p).applyLimits 0 r) adjusted else bad p

/-- What an accepted ZONE or DOORWAY record sets in motion. A new band or default setpoint has the zone resolved, a new
Kd has the drafts follow, a new minimum fresh air is taken at once by an INACTIVE zone and by no other (in STARTING the
model's choice, log entry 35), a new section has the two flaps follow and the zone post its demand. A new held cap amends the cap order of a HELD doorway, NO_HOLD set
retires it and brings OPEN without a hold timer, or stops that of an OPEN one, new served zones are posted and the
drafts follow. The zone posts its demand after a change of section (log entry 26), and zone 0 posts its figures to
the Screen Controller where a new minimum fresh air reaches it in INACTIVE (log entry 25). The order of these effects
and their postings is that of the lists of R3 and R6, by the model's choice (log entry 17). -/
def Obligations.ZoneAndDoorwayRecordsTakeEffect : Prop :=
  (∀ (z : ZoneId) (r : ZoneRec) (s : State),
    let old := s.zoneRec z
    let position (f : Flaps) (x : Section) : Nat := match x with | .a => f.posA | .b => f.posB | .c => f.posC
    let sectionOf (y : ZoneId) : Section := if y = z then r.sect else (s.zoneRec y).sect
    let put := { s with cfg := { s.cfg with zones := Tab.put s.cfg.zones z r } }
    ∃ f : Flaps, f.demand = s.flaps.demand ∧
      (∀ x, x ≠ old.sect → x ≠ r.sect → position f x = position s.flaps x) ∧
      (∀ x, x = old.sect ∨ x = r.sect →
        (∀ y, sectionOf y = x → Tab.get f.demand y ≤ position f x) ∧
        (position f x = 0 ∨ ∃ y, sectionOf y = x ∧ position f x = Tab.get f.demand y)) ∧
      let banded :=
        if old.setpoint = r.setpoint ∧ old.bandMin = r.bandMin ∧ old.bandMax = r.bandMax then put
        else put.resolve (1#8 <<< z.val) false
      let drafted := if old.kd = r.kd then banded else banded.postDrafts
      let aired :=
        if old.minFresh ≠ r.minFresh ∧ (s.reg z).state = .inactive then
          drafted.zoneTakes z { s.reg z with fresh := r.minFresh, freshRead := r.minFresh }
        else drafted
      s.applyZone z r = if old.sect = r.sect then aired
        else ({ aired with flaps := f }).post [.freshAirPosting z (aired.reg z).fresh]) ∧
  ∀ (d : DoorId) (r : DoorRec) (s : State),
    let old := s.doorRec d
    let x := s.door d
    let k := capSlot d
    let put := { s with cfg := { s.cfg with doors := Tab.put s.cfg.doors d r } }
    let opened (u : State) : State :=
      (((u.setDoor d { x with state := .opened, holdTimer := none, capHandle := none }).post
        [.conditionPosting (.doorway d .opened r.zones)]).postDrafts).postCurtain d
    let served (u : State) : State :=
      if old.zones = r.zones then u else (u.post [.conditionPosting (.doorway d (u.door d).state r.zones)]).postDrafts
    (x.state ≠ .held → s.applyDoor d r = served
      (if old.noHold = false ∧ r.noHold = true ∧ x.state = .opened then put.setDoor d { x with holdTimer := none }
      else put)) ∧
    (x.state = .held → ∀ e, (s.slot k).entry = some e →
      let cap := { e.ord with value := (r.cap : Int) }
      let amended :=
        if old.cap = r.cap then put
        else (put.setSlot k { s.slot k with entry := some { e with ord := cap } }).resolveOrder cap
      s.applyDoor d r = served
        (if old.noHold = false ∧ r.noHold = true then
          opened ((amended.setSlot k { gen := (s.slot k).gen + 1, entry := none }).resolveOrder e.ord)
        else amended))

/-- What an accepted CHANNEL or SENSOR record sets in motion. A bank channel with a new type, rating or group holds
duty 0 and its new consumer is asked for its duty; an AUX channel with a new type has its duty, its heater's figures
and its entry in the aux pool at 0, and the pool reallocates; the bank follows, and the changes of availability and
rating are posted. A sensor channel with a new role or origin restarts and leaves a running pass, and what it fed and
feeds is recomputed and posted; else its live fields stay. What an accepted SUPPLY, SCREEN or LIMITS record sets in
motion: each allowance in force that changed is posted; a new dwell becomes the count of slot 62 and the screen level
is resolved; new thresholds are posted to the Order Table, and slot 63 is amended to the base floor and resolved at
every acceptance. The order of the effects of one record and of their postings is that of the rule's list where the rule
gives no other (the model's choice, log entry 17). -/
def Obligations.OtherRecordsTakeEffect : Prop :=
  ((∀ (c : ChanId) (r : ChanRec) (s : State),
     let old := s.chanRec c
     let put := { s with cfg := { s.cfg with chans := Tab.put s.cfg.chans c r } }
     let cleared := put.setChan c { s.chan c with duty := 0 }
     (∀ b, bankOf c = some b →
       let refitted :=
         if old.type = r.type ∧ old.rated = r.rated ∧ old.group = r.group then put
         else
           match r.type with
           | .convector _ | .curtain _ => cleared.post [.channelReconfiguredPosting c]
           | .none | .screen | .mirror => cleared
       let released : Prop := old.enabled = false ∧ r.enabled = true ∧ (s.chan c).surface ≠ .lost
       (released → s.applyChan c r = ((refitted.testEligible b).updateIdle b).postAvail s) ∧
       (¬released → s.applyChan c r = (refitted.updateIdle b).postAvail s)) ∧
     ∀ a : AuxId, c = auxChan a →
       let none : PoolEntry := { request := 0, avail := (Tab.get s.alloc.aux a).avail, grant := 0 }
       let emptied := cleared.setHeater a { request := 0, grant := 0, duty := 0 }
       s.applyChan c r =
         (if old.type = r.type then put
         else ({ emptied with alloc := { s.alloc with aux := Tab.put s.alloc.aux a none } }).reallocAux).postAvail s) ∧
   ∀ (k : SensorId) (r : SensorRec) (s : State),
     let old := s.sensorRec k
     let put := { s with cfg := { s.cfg with sensors := Tab.put s.cfg.sensors k r } }
     (old.role = r.role → old.origin = r.origin → s.applySensor k r = put) ∧
     (¬(old.role = r.role ∧ old.origin = r.origin) →
       let fresh : SensorLive :=
         { state := .suspect, last := 0, count := 0
           holdTimer := if r.role = .unused then none else some (s.now + 1000 * r.hold)
           refreshTimer := if r.role ≠ .unused ∧ r.origin = .external then some (s.now + 10000) else none }
       let live := put.setSensor k fresh
       let rest := s.scan.pass.filter fun j => decide (j ≠ k)
       let t := ({ live with scan := { live.scan with pass := rest } }).derived s
         (if old.role = r.role then [r.role] else [old.role, r.role])
       s.applySensor k r =
         if s.scan.pass ≠ [] ∧ rest = [] ∧ s.scan.recorded = true then
           { t with scan := { t.scan with
             pass := t.passList, scanTimer := some (s.now + s.cfg.limits.scan), recorded := false } }
         else t)) ∧
  ((∀ (r : SupplyRec) (s : State),
     let t := { s with cfg := { s.cfg with supply := r } }
     s.applySupply 0 r =
       t.post ((if t.lineAllowance = s.lineAllowance then [] else [.allocatorAllowancePosting t.lineAllowance]) ++
         if t.auxAllowance = s.auxAllowance then [] else [.auxAllowancePosting t.auxAllowance])) ∧
   (∀ (r : ScreenRec) (s : State) (e : Entry), (s.slot 62).entry = some e →
     let t := { s with cfg := { s.cfg with screen := r } }
     s.applyScreen 0 r =
       if s.cfg.screen.dwell = r.dwell then t
       else (t.setSlot 62 { s.slot 62 with entry := some { e with ord := { e.ord with count := r.dwell } } }).resolve 0
         true) ∧
   ∀ (r : LimitsRec) (s : State) (e : Entry), (s.slot 63).entry = some e →
     let t := ({ s with cfg := { s.cfg with limits := r } }).post
       (if s.cfg.limits.frost = r.frost ∧ s.cfg.limits.warm = r.warm then []
       else [.conditionPosting (.thresholds r.frost r.warm)])
     let amended := { e.ord with value := r.floor }
     s.applyLimits 0 r =
       (t.setSlot 63 { s.slot 63 with entry := some { e with ord := amended } }).resolveOrder amended)

/-- POWER_ON brings every block to the state `State.reset` gives it, whatever was before, but for what the pins decide:
each doorway's raw input is its pin's level, an open one starting its debounce, and battery-low is that of BATLOW, with
the aux allowance that follows. The pins' levels and the waiting commands stay (log entry 4). Of that state the rules
give: supply state BATTERY and mode PARK, every zone ACTIVE at 50 with the floor 50 and cap 100, screen level 0, watch
UNKNOWN with its initial posting pending, every bank OPEN, every channel DISABLED, every doorway CLOSED, and no cause
pending. The power-on state is sound in every respect. -/
def Obligations.PowerOnSetsEveryBlock : Prop :=
  ((∀ s : State,
     let r := State.reset
     exec .powerOn s =
       .next { r with
         pins := s.pins
         pending := s.pending
         orders := { r.orders with cond := { r.orders.cond with lowBat := s.pins.batLow } }
         supply := { r.supply with lowBat := s.pins.batLow }
         alloc := { r.alloc with auxAllowance := if s.pins.batLow then 0 else 30 }
         mon := { r.mon with doors := Tab.build fun d =>
           { r.door d with
             raw := (s.door d).raw
             debounceTimer := if (s.door d).raw then some 200 else none } } }) ∧
   let r := State.reset
   let parked : Target :=
     { activity := .active, ts := some 50, hold := .off, holdOrigin := .parked, offset := 0, floor := some 50
       cap := 100, fanOrder := 0, fanOrigin := none }
   r.supply.state = .battery ∧ r.supply.mode = .park ∧ r.supply.status = .neverReceived ∧ r.link.causes = 0 ∧
   r.link.mask = 0 ∧ r.orders.level = 0 ∧ r.screen.watch = .unknown ∧ r.screen.initial = true ∧ r.scan.tOut = -100 ∧
   r.scan.stale = true ∧
   (∀ z, r.target z = parked ∧ (r.reg z).state = .starting ∧ (r.reg z).fresh = 20 ∧ (r.reg z).timer = some 2000) ∧
   (∀ b, (r.bank b).state = .opened ∧ (r.bank b).faults = 0) ∧ (∀ d, (r.door d).state = .closed) ∧
   (∀ c, r.chanState c = .disabled ∧ (r.chan c).duty = 0) ∧
   (∀ k : SlotId, (r.slot k).gen = 0 ∧ ((r.slot k).entry = none ↔ k.val < 62)) ∧ r.scan.scanTimer = some 500) ∧
  (SlotsSound State.reset ∧ HostOrdersSound State.reset ∧ OrdersInRange State.reset ∧ OrdersSound State.reset ∧ TargetsCurrent State.reset ∧
     DoorsSound State.reset ∧ RegulatorsSound State.reset ∧ SupplySound State.reset ∧ BanksSound State.reset ∧
     ChansSound State.reset ∧ LinkSound State.reset ∧ CabinMapSound State.reset ∧ Sound State.reset)

/-! ### Invariants that every step keeps -/

/-- Every step keeps the reserved slots as R20 and R46 to R48 say: slot 56 + d holds doorway d's cap order exactly
while it is HELD, slots 62 and 63 hold their orders at generation 0; and every order in slots 0 to 55 has a host source
and a kind that the table of R26 gives the source (which gives FLEET no SCREEN, where R128 tells of one: the model's
choice, log entry 37), with persist no from DRIVER (R27) and STANDING or COUNTDOWN from DEPOT (R28). While the commands
and postings that wait are well formed, as StepKeepsTheMachineSound has them stay, and the cabin map is sound, it keeps
every order, and every latched copy, in the ranges of R22 to R24. Every step leaves every order in the state its
condition and lifetime give it, and every target record and the screen level as resolution gives them from the orders,
the mode and the zone records as they stand. -/
def Obligations.StepKeepsTheOrderTable : Prop :=
  (∀ s t : State, step s = .next t →
     (SlotsSound s → SlotsSound t) ∧ (HostOrdersSound s → HostOrdersSound t) ∧
     ((∀ c ∈ s.pending ++ s.posts, WellFormed c = true) → CabinMapSound s → SlotsSound s → OrdersInRange s →
       OrdersInRange t)) ∧
  (∀ s t : State, step s = .next t →
     (OrdersSound s → OrdersSound t) ∧ (SlotsSound s → TargetsCurrent s → TargetsCurrent t))

/-- Every step keeps the doorways' timers running where R104 says, and every zone's integrator and demand in -1000 to
1000, its fresh-air demand that of R95 for its demand and the minimum it has read (where R3 has a new minimum wait for
the next expiry, in STARTING too: log entry 35), with nothing asked or driven by an INACTIVE zone. Every step keeps the timers of the Supply Monitor and of the
banks running in their own states, no bank CLOSED or HOLD in BATTERY, the third fault locking, and a channel of type
NONE at duty 0 and overheated only on a reading. -/
def Obligations.StepKeepsTheBlocks : Prop :=
  (∀ s t : State, step s = .next t → (DoorsSound s → DoorsSound t) ∧ (RegulatorsSound s → RegulatorsSound t)) ∧
  (∀ s t : State, step s = .next t →
     (SupplySound s → SupplySound t) ∧ (BanksSound s → BanksSound t) ∧ (ChansSound s → ChansSound t))

/-- Every step keeps the port's buffers and positions, and every configuration record and curve entry, in their ranges,
with the structural and cross-field checks of each record. -/
def Obligations.StepKeepsTheLinkAndTheCabinMap : Prop :=
  ∀ s t : State, step s = .next t → (LinkSound s → LinkSound t) ∧ (CabinMapSound s → CabinMapSound t)

/-- Every step of a sound machine leaves it sound: the commands and the postings that wait stay well formed, those that
the step adds among them, and with them the cabin map, the reserved slots, every order, every zone and every figure that
a block posts on stay in their ranges. -/
def Obligations.StepKeepsTheMachineSound : Prop :=
  ∀ s t : State, Sound s → step s = .next t → Sound t
end

