-- ==== Sys2Proof/Laws/State.lean ====
section
/-! SUPPORT. The small laws of the state: how a table answers after an update, and, for each update of the state, what
each field is after it. No later proof unfolds a record update. -/

namespace Sys2Proof.Machine

/-! ### Tables -/

@[simp] theorem Tab.get_put_same {α : Type} {n : Nat} (t : Vector α n) (i : Fin n) (x : α) :
    Tab.get (Tab.put t i x) i = x := by simp [Tab.get, Tab.put]

theorem Tab.get_put_ne {α : Type} {n : Nat} (t : Vector α n) (i j : Fin n) (x : α) (h : i ≠ j) :
    Tab.get (Tab.put t i x) j = Tab.get t j := by
  have h' : i.val ≠ j.val := fun e => h (Fin.ext e)
  simp [Tab.get, Tab.put, h']

theorem Tab.get_put {α : Type} {n : Nat} (t : Vector α n) (i j : Fin n) (x : α) :
    Tab.get (Tab.put t i x) j = if i = j then x else Tab.get t j := by
  split
  · next h => subst h; simp
  · next h => exact Tab.get_put_ne t i j x h

@[simp] theorem Tab.get_build {α : Type} {n : Nat} (f : Fin n → α) (i : Fin n) : Tab.get (Tab.build f) i = f i := by
  simp [Tab.get, Tab.build]

theorem Tab.ext {α : Type} {n : Nat} {t u : Vector α n} (h : ∀ i, Tab.get t i = Tab.get u i) : t = u := by
  apply Vector.ext
  intro i hi
  exact h ⟨i, hi⟩

@[simp] theorem Tab.put_get {α : Type} {n : Nat} (t : Vector α n) (i : Fin n) : Tab.put t i (Tab.get t i) = t := by
  apply Tab.ext
  intro j
  rw [Tab.get_put]
  split
  · next h => rw [h]
  · rfl

@[simp] theorem Tab.put_put {α : Type} {n : Nat} (t : Vector α n) (i : Fin n) (x y : α) :
    Tab.put (Tab.put t i x) i y = Tab.put t i y := by
  apply Tab.ext
  intro j
  simp only [Tab.get_put]
  split <;> rfl

/-! ### The fields after each update -/

@[simp] theorem State.post_now (s : State) (l : List Instr) : (s.post l).now = s.now := rfl
@[simp] theorem State.post_pins (s : State) (l : List Instr) : (s.post l).pins = s.pins := rfl
@[simp] theorem State.post_cfg (s : State) (l : List Instr) : (s.post l).cfg = s.cfg := rfl
@[simp] theorem State.post_link (s : State) (l : List Instr) : (s.post l).link = s.link := rfl
@[simp] theorem State.post_orders (s : State) (l : List Instr) : (s.post l).orders = s.orders := rfl
@[simp] theorem State.post_scan (s : State) (l : List Instr) : (s.post l).scan = s.scan := rfl
@[simp] theorem State.post_regs (s : State) (l : List Instr) : (s.post l).regs = s.regs := rfl
@[simp] theorem State.post_flaps (s : State) (l : List Instr) : (s.post l).flaps = s.flaps := rfl
@[simp] theorem State.post_mon (s : State) (l : List Instr) : (s.post l).mon = s.mon := rfl
@[simp] theorem State.post_screen (s : State) (l : List Instr) : (s.post l).screen = s.screen := rfl
@[simp] theorem State.post_supply (s : State) (l : List Instr) : (s.post l).supply = s.supply := rfl
@[simp] theorem State.post_alloc (s : State) (l : List Instr) : (s.post l).alloc = s.alloc := rfl
@[simp] theorem State.post_banks (s : State) (l : List Instr) : (s.post l).banks = s.banks := rfl
@[simp] theorem State.post_chans (s : State) (l : List Instr) : (s.post l).chans = s.chans := rfl
@[simp] theorem State.post_posts (s : State) (l : List Instr) :
    (s.post l).posts = s.posts ++ l := rfl
@[simp] theorem State.post_pending (s : State) (l : List Instr) : (s.post l).pending = s.pending := rfl

@[simp] theorem State.raise_now (s : State) (c : Cause) : (s.raise c).now = s.now := rfl
@[simp] theorem State.raise_pins (s : State) (c : Cause) : (s.raise c).pins = s.pins := rfl
@[simp] theorem State.raise_cfg (s : State) (c : Cause) : (s.raise c).cfg = s.cfg := rfl
@[simp] theorem State.raise_link (s : State) (c : Cause) :
    (s.raise c).link = { s.link with causes := s.link.causes ||| c.bit } := rfl
@[simp] theorem State.raise_orders (s : State) (c : Cause) : (s.raise c).orders = s.orders := rfl
@[simp] theorem State.raise_scan (s : State) (c : Cause) : (s.raise c).scan = s.scan := rfl
@[simp] theorem State.raise_regs (s : State) (c : Cause) : (s.raise c).regs = s.regs := rfl
@[simp] theorem State.raise_flaps (s : State) (c : Cause) : (s.raise c).flaps = s.flaps := rfl
@[simp] theorem State.raise_mon (s : State) (c : Cause) : (s.raise c).mon = s.mon := rfl
@[simp] theorem State.raise_screen (s : State) (c : Cause) : (s.raise c).screen = s.screen := rfl
@[simp] theorem State.raise_supply (s : State) (c : Cause) : (s.raise c).supply = s.supply := rfl
@[simp] theorem State.raise_alloc (s : State) (c : Cause) : (s.raise c).alloc = s.alloc := rfl
@[simp] theorem State.raise_banks (s : State) (c : Cause) : (s.raise c).banks = s.banks := rfl
@[simp] theorem State.raise_chans (s : State) (c : Cause) : (s.raise c).chans = s.chans := rfl
@[simp] theorem State.raise_posts (s : State) (c : Cause) : (s.raise c).posts = s.posts := rfl
@[simp] theorem State.raise_pending (s : State) (c : Cause) : (s.raise c).pending = s.pending := rfl

@[simp] theorem State.clock_now (s : State) (b : List Byte) : (s.clock b).now = s.now := rfl
@[simp] theorem State.clock_pins (s : State) (b : List Byte) : (s.clock b).pins = s.pins := rfl
@[simp] theorem State.clock_cfg (s : State) (b : List Byte) : (s.clock b).cfg = s.cfg := rfl
@[simp] theorem State.clock_link (s : State) (b : List Byte) :
    (s.clock b).link = s.link.clock b := rfl
@[simp] theorem State.clock_orders (s : State) (b : List Byte) : (s.clock b).orders = s.orders := rfl
@[simp] theorem State.clock_scan (s : State) (b : List Byte) : (s.clock b).scan = s.scan := rfl
@[simp] theorem State.clock_regs (s : State) (b : List Byte) : (s.clock b).regs = s.regs := rfl
@[simp] theorem State.clock_flaps (s : State) (b : List Byte) : (s.clock b).flaps = s.flaps := rfl
@[simp] theorem State.clock_mon (s : State) (b : List Byte) : (s.clock b).mon = s.mon := rfl
@[simp] theorem State.clock_screen (s : State) (b : List Byte) : (s.clock b).screen = s.screen := rfl
@[simp] theorem State.clock_supply (s : State) (b : List Byte) : (s.clock b).supply = s.supply := rfl
@[simp] theorem State.clock_alloc (s : State) (b : List Byte) : (s.clock b).alloc = s.alloc := rfl
@[simp] theorem State.clock_banks (s : State) (b : List Byte) : (s.clock b).banks = s.banks := rfl
@[simp] theorem State.clock_chans (s : State) (b : List Byte) : (s.clock b).chans = s.chans := rfl
@[simp] theorem State.clock_posts (s : State) (b : List Byte) : (s.clock b).posts = s.posts := rfl
@[simp] theorem State.clock_pending (s : State) (b : List Byte) : (s.clock b).pending = s.pending := rfl

@[simp] theorem State.reply_now (s : State) (c : Byte) (x : Status) (p : List Byte) : (s.reply c x p).now = s.now := rfl
@[simp] theorem State.reply_pins (s : State) (c : Byte) (x : Status) (p : List Byte) :
    (s.reply c x p).pins = s.pins := rfl
@[simp] theorem State.reply_cfg (s : State) (c : Byte) (x : Status) (p : List Byte) : (s.reply c x p).cfg = s.cfg := rfl
@[simp] theorem State.reply_link (s : State) (c : Byte) (x : Status) (p : List Byte) :
    (s.reply c x p).link = { s.link with reply := { code := c, status := x, payload := p }, readPos := 0 } := rfl
@[simp] theorem State.reply_orders (s : State) (c : Byte) (x : Status) (p : List Byte) :
    (s.reply c x p).orders = s.orders := rfl
@[simp] theorem State.reply_scan (s : State) (c : Byte) (x : Status) (p : List Byte) :
    (s.reply c x p).scan = s.scan := rfl
@[simp] theorem State.reply_regs (s : State) (c : Byte) (x : Status) (p : List Byte) :
    (s.reply c x p).regs = s.regs := rfl
@[simp] theorem State.reply_flaps (s : State) (c : Byte) (x : Status) (p : List Byte) :
    (s.reply c x p).flaps = s.flaps := rfl
@[simp] theorem State.reply_mon (s : State) (c : Byte) (x : Status) (p : List Byte) : (s.reply c x p).mon = s.mon := rfl
@[simp] theorem State.reply_screen (s : State) (c : Byte) (x : Status) (p : List Byte) :
    (s.reply c x p).screen = s.screen := rfl
@[simp] theorem State.reply_supply (s : State) (c : Byte) (x : Status) (p : List Byte) :
    (s.reply c x p).supply = s.supply := rfl
@[simp] theorem State.reply_alloc (s : State) (c : Byte) (x : Status) (p : List Byte) :
    (s.reply c x p).alloc = s.alloc := rfl
@[simp] theorem State.reply_banks (s : State) (c : Byte) (x : Status) (p : List Byte) :
    (s.reply c x p).banks = s.banks := rfl
@[simp] theorem State.reply_chans (s : State) (c : Byte) (x : Status) (p : List Byte) :
    (s.reply c x p).chans = s.chans := rfl
@[simp] theorem State.reply_posts (s : State) (c : Byte) (x : Status) (p : List Byte) :
    (s.reply c x p).posts = s.posts := rfl
@[simp] theorem State.reply_pending (s : State) (c : Byte) (x : Status) (p : List Byte) :
    (s.reply c x p).pending = s.pending := rfl

@[simp] theorem State.atTime_now (s : State) (e : Nat) :
    (s.atTime e).now = max s.now e := rfl
@[simp] theorem State.atTime_pins (s : State) (e : Nat) : (s.atTime e).pins = s.pins := rfl
@[simp] theorem State.atTime_cfg (s : State) (e : Nat) : (s.atTime e).cfg = s.cfg := rfl
@[simp] theorem State.atTime_link (s : State) (e : Nat) : (s.atTime e).link = s.link := rfl
@[simp] theorem State.atTime_orders (s : State) (e : Nat) : (s.atTime e).orders = s.orders := rfl
@[simp] theorem State.atTime_scan (s : State) (e : Nat) : (s.atTime e).scan = s.scan := rfl
@[simp] theorem State.atTime_regs (s : State) (e : Nat) : (s.atTime e).regs = s.regs := rfl
@[simp] theorem State.atTime_flaps (s : State) (e : Nat) : (s.atTime e).flaps = s.flaps := rfl
@[simp] theorem State.atTime_mon (s : State) (e : Nat) : (s.atTime e).mon = s.mon := rfl
@[simp] theorem State.atTime_screen (s : State) (e : Nat) : (s.atTime e).screen = s.screen := rfl
@[simp] theorem State.atTime_supply (s : State) (e : Nat) : (s.atTime e).supply = s.supply := rfl
@[simp] theorem State.atTime_alloc (s : State) (e : Nat) : (s.atTime e).alloc = s.alloc := rfl
@[simp] theorem State.atTime_banks (s : State) (e : Nat) : (s.atTime e).banks = s.banks := rfl
@[simp] theorem State.atTime_chans (s : State) (e : Nat) : (s.atTime e).chans = s.chans := rfl
@[simp] theorem State.atTime_posts (s : State) (e : Nat) : (s.atTime e).posts = s.posts := rfl
@[simp] theorem State.atTime_pending (s : State) (e : Nat) : (s.atTime e).pending = s.pending := rfl

@[simp] theorem State.setReg_now (s : State) (z : ZoneId) (r : Regulator) : (s.setReg z r).now = s.now := rfl
@[simp] theorem State.setReg_pins (s : State) (z : ZoneId) (r : Regulator) : (s.setReg z r).pins = s.pins := rfl
@[simp] theorem State.setReg_cfg (s : State) (z : ZoneId) (r : Regulator) : (s.setReg z r).cfg = s.cfg := rfl
@[simp] theorem State.setReg_link (s : State) (z : ZoneId) (r : Regulator) : (s.setReg z r).link = s.link := rfl
@[simp] theorem State.setReg_orders (s : State) (z : ZoneId) (r : Regulator) : (s.setReg z r).orders = s.orders := rfl
@[simp] theorem State.setReg_scan (s : State) (z : ZoneId) (r : Regulator) : (s.setReg z r).scan = s.scan := rfl
@[simp] theorem State.setReg_regs (s : State) (z : ZoneId) (r : Regulator) :
    (s.setReg z r).regs = Tab.put s.regs z r := rfl
@[simp] theorem State.setReg_flaps (s : State) (z : ZoneId) (r : Regulator) : (s.setReg z r).flaps = s.flaps := rfl
@[simp] theorem State.setReg_mon (s : State) (z : ZoneId) (r : Regulator) : (s.setReg z r).mon = s.mon := rfl
@[simp] theorem State.setReg_screen (s : State) (z : ZoneId) (r : Regulator) : (s.setReg z r).screen = s.screen := rfl
@[simp] theorem State.setReg_supply (s : State) (z : ZoneId) (r : Regulator) : (s.setReg z r).supply = s.supply := rfl
@[simp] theorem State.setReg_alloc (s : State) (z : ZoneId) (r : Regulator) : (s.setReg z r).alloc = s.alloc := rfl
@[simp] theorem State.setReg_banks (s : State) (z : ZoneId) (r : Regulator) : (s.setReg z r).banks = s.banks := rfl
@[simp] theorem State.setReg_chans (s : State) (z : ZoneId) (r : Regulator) : (s.setReg z r).chans = s.chans := rfl
@[simp] theorem State.setReg_posts (s : State) (z : ZoneId) (r : Regulator) : (s.setReg z r).posts = s.posts := rfl
@[simp] theorem State.setReg_pending (s : State) (z : ZoneId) (r : Regulator) :
    (s.setReg z r).pending = s.pending := rfl

@[simp] theorem State.setDoor_now (s : State) (d : DoorId) (x : Door) : (s.setDoor d x).now = s.now := rfl
@[simp] theorem State.setDoor_pins (s : State) (d : DoorId) (x : Door) : (s.setDoor d x).pins = s.pins := rfl
@[simp] theorem State.setDoor_cfg (s : State) (d : DoorId) (x : Door) : (s.setDoor d x).cfg = s.cfg := rfl
@[simp] theorem State.setDoor_link (s : State) (d : DoorId) (x : Door) : (s.setDoor d x).link = s.link := rfl
@[simp] theorem State.setDoor_orders (s : State) (d : DoorId) (x : Door) : (s.setDoor d x).orders = s.orders := rfl
@[simp] theorem State.setDoor_scan (s : State) (d : DoorId) (x : Door) : (s.setDoor d x).scan = s.scan := rfl
@[simp] theorem State.setDoor_regs (s : State) (d : DoorId) (x : Door) : (s.setDoor d x).regs = s.regs := rfl
@[simp] theorem State.setDoor_flaps (s : State) (d : DoorId) (x : Door) : (s.setDoor d x).flaps = s.flaps := rfl
@[simp] theorem State.setDoor_mon (s : State) (d : DoorId) (x : Door) :
    (s.setDoor d x).mon = { s.mon with doors := Tab.put s.mon.doors d x } := rfl
@[simp] theorem State.setDoor_screen (s : State) (d : DoorId) (x : Door) : (s.setDoor d x).screen = s.screen := rfl
@[simp] theorem State.setDoor_supply (s : State) (d : DoorId) (x : Door) : (s.setDoor d x).supply = s.supply := rfl
@[simp] theorem State.setDoor_alloc (s : State) (d : DoorId) (x : Door) : (s.setDoor d x).alloc = s.alloc := rfl
@[simp] theorem State.setDoor_banks (s : State) (d : DoorId) (x : Door) : (s.setDoor d x).banks = s.banks := rfl
@[simp] theorem State.setDoor_chans (s : State) (d : DoorId) (x : Door) : (s.setDoor d x).chans = s.chans := rfl
@[simp] theorem State.setDoor_posts (s : State) (d : DoorId) (x : Door) : (s.setDoor d x).posts = s.posts := rfl
@[simp] theorem State.setDoor_pending (s : State) (d : DoorId) (x : Door) : (s.setDoor d x).pending = s.pending := rfl

@[simp] theorem State.setBank_now (s : State) (b : BankId) (x : Bank) : (s.setBank b x).now = s.now := rfl
@[simp] theorem State.setBank_pins (s : State) (b : BankId) (x : Bank) : (s.setBank b x).pins = s.pins := rfl
@[simp] theorem State.setBank_cfg (s : State) (b : BankId) (x : Bank) : (s.setBank b x).cfg = s.cfg := rfl
@[simp] theorem State.setBank_link (s : State) (b : BankId) (x : Bank) : (s.setBank b x).link = s.link := rfl
@[simp] theorem State.setBank_orders (s : State) (b : BankId) (x : Bank) : (s.setBank b x).orders = s.orders := rfl
@[simp] theorem State.setBank_scan (s : State) (b : BankId) (x : Bank) : (s.setBank b x).scan = s.scan := rfl
@[simp] theorem State.setBank_regs (s : State) (b : BankId) (x : Bank) : (s.setBank b x).regs = s.regs := rfl
@[simp] theorem State.setBank_flaps (s : State) (b : BankId) (x : Bank) : (s.setBank b x).flaps = s.flaps := rfl
@[simp] theorem State.setBank_mon (s : State) (b : BankId) (x : Bank) : (s.setBank b x).mon = s.mon := rfl
@[simp] theorem State.setBank_screen (s : State) (b : BankId) (x : Bank) : (s.setBank b x).screen = s.screen := rfl
@[simp] theorem State.setBank_supply (s : State) (b : BankId) (x : Bank) : (s.setBank b x).supply = s.supply := rfl
@[simp] theorem State.setBank_alloc (s : State) (b : BankId) (x : Bank) : (s.setBank b x).alloc = s.alloc := rfl
@[simp] theorem State.setBank_banks (s : State) (b : BankId) (x : Bank) :
    (s.setBank b x).banks = Tab.put s.banks b x := rfl
@[simp] theorem State.setBank_chans (s : State) (b : BankId) (x : Bank) : (s.setBank b x).chans = s.chans := rfl
@[simp] theorem State.setBank_posts (s : State) (b : BankId) (x : Bank) : (s.setBank b x).posts = s.posts := rfl
@[simp] theorem State.setBank_pending (s : State) (b : BankId) (x : Bank) : (s.setBank b x).pending = s.pending := rfl

@[simp] theorem State.setChan_now (s : State) (c : ChanId) (x : Chan) : (s.setChan c x).now = s.now := rfl
@[simp] theorem State.setChan_pins (s : State) (c : ChanId) (x : Chan) : (s.setChan c x).pins = s.pins := rfl
@[simp] theorem State.setChan_cfg (s : State) (c : ChanId) (x : Chan) : (s.setChan c x).cfg = s.cfg := rfl
@[simp] theorem State.setChan_link (s : State) (c : ChanId) (x : Chan) : (s.setChan c x).link = s.link := rfl
@[simp] theorem State.setChan_orders (s : State) (c : ChanId) (x : Chan) : (s.setChan c x).orders = s.orders := rfl
@[simp] theorem State.setChan_scan (s : State) (c : ChanId) (x : Chan) : (s.setChan c x).scan = s.scan := rfl
@[simp] theorem State.setChan_regs (s : State) (c : ChanId) (x : Chan) : (s.setChan c x).regs = s.regs := rfl
@[simp] theorem State.setChan_flaps (s : State) (c : ChanId) (x : Chan) : (s.setChan c x).flaps = s.flaps := rfl
@[simp] theorem State.setChan_mon (s : State) (c : ChanId) (x : Chan) : (s.setChan c x).mon = s.mon := rfl
@[simp] theorem State.setChan_screen (s : State) (c : ChanId) (x : Chan) : (s.setChan c x).screen = s.screen := rfl
@[simp] theorem State.setChan_supply (s : State) (c : ChanId) (x : Chan) : (s.setChan c x).supply = s.supply := rfl
@[simp] theorem State.setChan_alloc (s : State) (c : ChanId) (x : Chan) : (s.setChan c x).alloc = s.alloc := rfl
@[simp] theorem State.setChan_banks (s : State) (c : ChanId) (x : Chan) : (s.setChan c x).banks = s.banks := rfl
@[simp] theorem State.setChan_chans (s : State) (c : ChanId) (x : Chan) :
    (s.setChan c x).chans = Tab.put s.chans c x := rfl
@[simp] theorem State.setChan_posts (s : State) (c : ChanId) (x : Chan) : (s.setChan c x).posts = s.posts := rfl
@[simp] theorem State.setChan_pending (s : State) (c : ChanId) (x : Chan) : (s.setChan c x).pending = s.pending := rfl

@[simp] theorem State.setSensor_now (s : State) (k : SensorId) (x : SensorLive) : (s.setSensor k x).now = s.now := rfl
@[simp] theorem State.setSensor_pins (s : State) (k : SensorId) (x : SensorLive) :
    (s.setSensor k x).pins = s.pins := rfl
@[simp] theorem State.setSensor_cfg (s : State) (k : SensorId) (x : SensorLive) : (s.setSensor k x).cfg = s.cfg := rfl
@[simp] theorem State.setSensor_link (s : State) (k : SensorId) (x : SensorLive) :
    (s.setSensor k x).link = s.link := rfl
@[simp] theorem State.setSensor_orders (s : State) (k : SensorId) (x : SensorLive) :
    (s.setSensor k x).orders = s.orders := rfl
@[simp] theorem State.setSensor_scan (s : State) (k : SensorId) (x : SensorLive) :
    (s.setSensor k x).scan = { s.scan with live := Tab.put s.scan.live k x } := rfl
@[simp] theorem State.setSensor_regs (s : State) (k : SensorId) (x : SensorLive) :
    (s.setSensor k x).regs = s.regs := rfl
@[simp] theorem State.setSensor_flaps (s : State) (k : SensorId) (x : SensorLive) :
    (s.setSensor k x).flaps = s.flaps := rfl
@[simp] theorem State.setSensor_mon (s : State) (k : SensorId) (x : SensorLive) : (s.setSensor k x).mon = s.mon := rfl
@[simp] theorem State.setSensor_screen (s : State) (k : SensorId) (x : SensorLive) :
    (s.setSensor k x).screen = s.screen := rfl
@[simp] theorem State.setSensor_supply (s : State) (k : SensorId) (x : SensorLive) :
    (s.setSensor k x).supply = s.supply := rfl
@[simp] theorem State.setSensor_alloc (s : State) (k : SensorId) (x : SensorLive) :
    (s.setSensor k x).alloc = s.alloc := rfl
@[simp] theorem State.setSensor_banks (s : State) (k : SensorId) (x : SensorLive) :
    (s.setSensor k x).banks = s.banks := rfl
@[simp] theorem State.setSensor_chans (s : State) (k : SensorId) (x : SensorLive) :
    (s.setSensor k x).chans = s.chans := rfl
@[simp] theorem State.setSensor_posts (s : State) (k : SensorId) (x : SensorLive) :
    (s.setSensor k x).posts = s.posts := rfl
@[simp] theorem State.setSensor_pending (s : State) (k : SensorId) (x : SensorLive) :
    (s.setSensor k x).pending = s.pending := rfl

@[simp] theorem State.setSlot_now (s : State) (k : SlotId) (x : Slot) : (s.setSlot k x).now = s.now := rfl
@[simp] theorem State.setSlot_pins (s : State) (k : SlotId) (x : Slot) : (s.setSlot k x).pins = s.pins := rfl
@[simp] theorem State.setSlot_cfg (s : State) (k : SlotId) (x : Slot) : (s.setSlot k x).cfg = s.cfg := rfl
@[simp] theorem State.setSlot_link (s : State) (k : SlotId) (x : Slot) : (s.setSlot k x).link = s.link := rfl
@[simp] theorem State.setSlot_orders (s : State) (k : SlotId) (x : Slot) :
    (s.setSlot k x).orders = { s.orders with slots := Tab.put s.orders.slots k x } := rfl
@[simp] theorem State.setSlot_scan (s : State) (k : SlotId) (x : Slot) : (s.setSlot k x).scan = s.scan := rfl
@[simp] theorem State.setSlot_regs (s : State) (k : SlotId) (x : Slot) : (s.setSlot k x).regs = s.regs := rfl
@[simp] theorem State.setSlot_flaps (s : State) (k : SlotId) (x : Slot) : (s.setSlot k x).flaps = s.flaps := rfl
@[simp] theorem State.setSlot_mon (s : State) (k : SlotId) (x : Slot) : (s.setSlot k x).mon = s.mon := rfl
@[simp] theorem State.setSlot_screen (s : State) (k : SlotId) (x : Slot) : (s.setSlot k x).screen = s.screen := rfl
@[simp] theorem State.setSlot_supply (s : State) (k : SlotId) (x : Slot) : (s.setSlot k x).supply = s.supply := rfl
@[simp] theorem State.setSlot_alloc (s : State) (k : SlotId) (x : Slot) : (s.setSlot k x).alloc = s.alloc := rfl
@[simp] theorem State.setSlot_banks (s : State) (k : SlotId) (x : Slot) : (s.setSlot k x).banks = s.banks := rfl
@[simp] theorem State.setSlot_chans (s : State) (k : SlotId) (x : Slot) : (s.setSlot k x).chans = s.chans := rfl
@[simp] theorem State.setSlot_posts (s : State) (k : SlotId) (x : Slot) : (s.setSlot k x).posts = s.posts := rfl
@[simp] theorem State.setSlot_pending (s : State) (k : SlotId) (x : Slot) : (s.setSlot k x).pending = s.pending := rfl

@[simp] theorem State.setHeater_now (s : State) (a : AuxId) (x : Heater) : (s.setHeater a x).now = s.now := rfl
@[simp] theorem State.setHeater_pins (s : State) (a : AuxId) (x : Heater) : (s.setHeater a x).pins = s.pins := rfl
@[simp] theorem State.setHeater_cfg (s : State) (a : AuxId) (x : Heater) : (s.setHeater a x).cfg = s.cfg := rfl
@[simp] theorem State.setHeater_link (s : State) (a : AuxId) (x : Heater) : (s.setHeater a x).link = s.link := rfl
@[simp] theorem State.setHeater_orders (s : State) (a : AuxId) (x : Heater) : (s.setHeater a x).orders = s.orders := rfl
@[simp] theorem State.setHeater_scan (s : State) (a : AuxId) (x : Heater) : (s.setHeater a x).scan = s.scan := rfl
@[simp] theorem State.setHeater_regs (s : State) (a : AuxId) (x : Heater) : (s.setHeater a x).regs = s.regs := rfl
@[simp] theorem State.setHeater_flaps (s : State) (a : AuxId) (x : Heater) : (s.setHeater a x).flaps = s.flaps := rfl
@[simp] theorem State.setHeater_mon (s : State) (a : AuxId) (x : Heater) : (s.setHeater a x).mon = s.mon := rfl
@[simp] theorem State.setHeater_screen (s : State) (a : AuxId) (x : Heater) :
    (s.setHeater a x).screen = { s.screen with heaters := Tab.put s.screen.heaters a x } := rfl
@[simp] theorem State.setHeater_supply (s : State) (a : AuxId) (x : Heater) : (s.setHeater a x).supply = s.supply := rfl
@[simp] theorem State.setHeater_alloc (s : State) (a : AuxId) (x : Heater) : (s.setHeater a x).alloc = s.alloc := rfl
@[simp] theorem State.setHeater_banks (s : State) (a : AuxId) (x : Heater) : (s.setHeater a x).banks = s.banks := rfl
@[simp] theorem State.setHeater_chans (s : State) (a : AuxId) (x : Heater) : (s.setHeater a x).chans = s.chans := rfl
@[simp] theorem State.setHeater_posts (s : State) (a : AuxId) (x : Heater) : (s.setHeater a x).posts = s.posts := rfl
@[simp] theorem State.setHeater_pending (s : State) (a : AuxId) (x : Heater) :
    (s.setHeater a x).pending = s.pending := rfl

@[simp] theorem State.withCond_now (s : State) (w : CondWord) : (s.withCond w).now = s.now := rfl
@[simp] theorem State.withCond_pins (s : State) (w : CondWord) : (s.withCond w).pins = s.pins := rfl
@[simp] theorem State.withCond_cfg (s : State) (w : CondWord) : (s.withCond w).cfg = s.cfg := rfl
@[simp] theorem State.withCond_link (s : State) (w : CondWord) : (s.withCond w).link = s.link := rfl
@[simp] theorem State.withCond_orders (s : State) (w : CondWord) :
    (s.withCond w).orders = { s.orders with cond := w } := rfl
@[simp] theorem State.withCond_scan (s : State) (w : CondWord) : (s.withCond w).scan = s.scan := rfl
@[simp] theorem State.withCond_regs (s : State) (w : CondWord) : (s.withCond w).regs = s.regs := rfl
@[simp] theorem State.withCond_flaps (s : State) (w : CondWord) : (s.withCond w).flaps = s.flaps := rfl
@[simp] theorem State.withCond_mon (s : State) (w : CondWord) : (s.withCond w).mon = s.mon := rfl
@[simp] theorem State.withCond_screen (s : State) (w : CondWord) : (s.withCond w).screen = s.screen := rfl
@[simp] theorem State.withCond_supply (s : State) (w : CondWord) : (s.withCond w).supply = s.supply := rfl
@[simp] theorem State.withCond_alloc (s : State) (w : CondWord) : (s.withCond w).alloc = s.alloc := rfl
@[simp] theorem State.withCond_banks (s : State) (w : CondWord) : (s.withCond w).banks = s.banks := rfl
@[simp] theorem State.withCond_chans (s : State) (w : CondWord) : (s.withCond w).chans = s.chans := rfl
@[simp] theorem State.withCond_posts (s : State) (w : CondWord) : (s.withCond w).posts = s.posts := rfl
@[simp] theorem State.withCond_pending (s : State) (w : CondWord) : (s.withCond w).pending = s.pending := rfl

@[simp] theorem State.withSupply_now (s : State) (x : SupplyState) : (s.withSupply x).now = s.now := rfl
@[simp] theorem State.withSupply_pins (s : State) (x : SupplyState) : (s.withSupply x).pins = s.pins := rfl
@[simp] theorem State.withSupply_cfg (s : State) (x : SupplyState) : (s.withSupply x).cfg = s.cfg := rfl
@[simp] theorem State.withSupply_link (s : State) (x : SupplyState) : (s.withSupply x).link = s.link := rfl
@[simp] theorem State.withSupply_orders (s : State) (x : SupplyState) : (s.withSupply x).orders = s.orders := rfl
@[simp] theorem State.withSupply_scan (s : State) (x : SupplyState) : (s.withSupply x).scan = s.scan := rfl
@[simp] theorem State.withSupply_regs (s : State) (x : SupplyState) : (s.withSupply x).regs = s.regs := rfl
@[simp] theorem State.withSupply_flaps (s : State) (x : SupplyState) : (s.withSupply x).flaps = s.flaps := rfl
@[simp] theorem State.withSupply_mon (s : State) (x : SupplyState) : (s.withSupply x).mon = s.mon := rfl
@[simp] theorem State.withSupply_screen (s : State) (x : SupplyState) : (s.withSupply x).screen = s.screen := rfl
@[simp] theorem State.withSupply_alloc (s : State) (x : SupplyState) : (s.withSupply x).alloc = s.alloc := rfl
@[simp] theorem State.withSupply_banks (s : State) (x : SupplyState) : (s.withSupply x).banks = s.banks := rfl
@[simp] theorem State.withSupply_chans (s : State) (x : SupplyState) : (s.withSupply x).chans = s.chans := rfl
@[simp] theorem State.withSupply_posts (s : State) (x : SupplyState) : (s.withSupply x).posts = s.posts := rfl
@[simp] theorem State.withSupply_pending (s : State) (x : SupplyState) : (s.withSupply x).pending = s.pending := rfl

@[simp] theorem State.resolve_now (s : State) (zs : ZoneSet) (scr : Bool) :
    (s.resolve zs scr).now = s.now := by simp only [State.resolve]
@[simp] theorem State.resolve_pins (s : State) (zs : ZoneSet) (scr : Bool) :
    (s.resolve zs scr).pins = s.pins := by simp only [State.resolve]
@[simp] theorem State.resolve_cfg (s : State) (zs : ZoneSet) (scr : Bool) :
    (s.resolve zs scr).cfg = s.cfg := by simp only [State.resolve]
@[simp] theorem State.resolve_link (s : State) (zs : ZoneSet) (scr : Bool) :
    (s.resolve zs scr).link = s.link := by simp only [State.resolve]
@[simp] theorem State.resolve_orders (s : State) (zs : ZoneSet) (scr : Bool) :
    (s.resolve zs scr).orders = s.orders.resolved s.cfg.zones zs scr := by simp only [State.resolve]
@[simp] theorem State.resolve_scan (s : State) (zs : ZoneSet) (scr : Bool) :
    (s.resolve zs scr).scan = s.scan := by simp only [State.resolve]
@[simp] theorem State.resolve_regs (s : State) (zs : ZoneSet) (scr : Bool) :
    (s.resolve zs scr).regs = s.regs := by simp only [State.resolve]
@[simp] theorem State.resolve_flaps (s : State) (zs : ZoneSet) (scr : Bool) :
    (s.resolve zs scr).flaps = s.flaps := by simp only [State.resolve]
@[simp] theorem State.resolve_mon (s : State) (zs : ZoneSet) (scr : Bool) :
    (s.resolve zs scr).mon = s.mon := by simp only [State.resolve]
@[simp] theorem State.resolve_screen (s : State) (zs : ZoneSet) (scr : Bool) :
    (s.resolve zs scr).screen = s.screen := by simp only [State.resolve]
@[simp] theorem State.resolve_supply (s : State) (zs : ZoneSet) (scr : Bool) :
    (s.resolve zs scr).supply = s.supply := by simp only [State.resolve]
@[simp] theorem State.resolve_alloc (s : State) (zs : ZoneSet) (scr : Bool) :
    (s.resolve zs scr).alloc = s.alloc := by simp only [State.resolve]
@[simp] theorem State.resolve_banks (s : State) (zs : ZoneSet) (scr : Bool) :
    (s.resolve zs scr).banks = s.banks := by simp only [State.resolve]
@[simp] theorem State.resolve_chans (s : State) (zs : ZoneSet) (scr : Bool) :
    (s.resolve zs scr).chans = s.chans := by simp only [State.resolve]
@[simp] theorem State.resolve_pending (s : State) (zs : ZoneSet) (scr : Bool) :
    (s.resolve zs scr).pending = s.pending := by simp only [State.resolve]

/-! ### The numbered records after each update -/

@[simp] theorem State.setReg_reg_same (s : State) (z : ZoneId) (x : Regulator) : (s.setReg z x).reg z = x :=
  Tab.get_put_same _ _ _
theorem State.setReg_reg_ne (s : State) (z j : ZoneId) (x : Regulator) (h : z ≠ j) : (s.setReg z x).reg j = s.reg j :=
  Tab.get_put_ne _ _ _ _ h

@[simp] theorem State.setDoor_door_same (s : State) (d : DoorId) (x : Door) : (s.setDoor d x).door d = x :=
  Tab.get_put_same _ _ _
theorem State.setDoor_door_ne (s : State) (d j : DoorId) (x : Door) (h : d ≠ j) : (s.setDoor d x).door j = s.door j :=
  Tab.get_put_ne _ _ _ _ h

@[simp] theorem State.setBank_bank_same (s : State) (b : BankId) (x : Bank) : (s.setBank b x).bank b = x :=
  Tab.get_put_same _ _ _
theorem State.setBank_bank_ne (s : State) (b j : BankId) (x : Bank) (h : b ≠ j) : (s.setBank b x).bank j = s.bank j :=
  Tab.get_put_ne _ _ _ _ h

@[simp] theorem State.setChan_chan_same (s : State) (c : ChanId) (x : Chan) : (s.setChan c x).chan c = x :=
  Tab.get_put_same _ _ _
theorem State.setChan_chan_ne (s : State) (c j : ChanId) (x : Chan) (h : c ≠ j) : (s.setChan c x).chan j = s.chan j :=
  Tab.get_put_ne _ _ _ _ h

@[simp] theorem State.setSensor_sensor_same (s : State) (k : SensorId) (x : SensorLive) : (s.setSensor k x).sensor k = x :=
  Tab.get_put_same _ _ _
theorem State.setSensor_sensor_ne (s : State) (k j : SensorId) (x : SensorLive) (h : k ≠ j) : (s.setSensor k x).sensor j = s.sensor j :=
  Tab.get_put_ne _ _ _ _ h

@[simp] theorem State.setSlot_slot_same (s : State) (k : SlotId) (x : Slot) : (s.setSlot k x).slot k = x :=
  Tab.get_put_same _ _ _
theorem State.setSlot_slot_ne (s : State) (k j : SlotId) (x : Slot) (h : k ≠ j) : (s.setSlot k x).slot j = s.slot j :=
  Tab.get_put_ne _ _ _ _ h

@[simp] theorem State.setHeater_heater_same (s : State) (a : AuxId) (x : Heater) : (s.setHeater a x).heater a = x :=
  Tab.get_put_same _ _ _
theorem State.setHeater_heater_ne (s : State) (a j : AuxId) (x : Heater) (h : a ≠ j) : (s.setHeater a x).heater j = s.heater j :=
  Tab.get_put_ne _ _ _ _ h

/-! ### Updates of one place -/

@[simp] theorem State.post_nil (s : State) : s.post [] = s := by simp [State.post]

@[simp] theorem State.post_post (s : State) (l m : List Instr) : (s.post l).post m = s.post (l ++ m) := by
  simp [State.post]

@[simp] theorem State.setBank_setBank (s : State) (b : BankId) (x y : Bank) :
    (s.setBank b x).setBank b y = s.setBank b y := by simp [State.setBank]

@[simp] theorem State.setReg_setReg (s : State) (z : ZoneId) (x y : Regulator) :
    (s.setReg z x).setReg z y = s.setReg z y := by simp [State.setReg]

@[simp] theorem State.setDoor_setDoor (s : State) (d : DoorId) (x y : Door) :
    (s.setDoor d x).setDoor d y = s.setDoor d y := by simp [State.setDoor]

@[simp] theorem State.setSlot_setSlot (s : State) (k : SlotId) (x y : Slot) :
    (s.setSlot k x).setSlot k y = s.setSlot k y := by simp [State.setSlot]

@[simp] theorem State.setHeater_setHeater (s : State) (a : AuxId) (x y : Heater) :
    (s.setHeater a x).setHeater a y = s.setHeater a y := by simp [State.setHeater]

end Sys2Proof.Machine
end

