-- ==== Sys2Proof/Laws/Ops.lean ====
section
/-! SUPPORT. One lemma for each shared operation, saying once what it does: arithmetic, sets, timers, frames at the port,
slots of the Order Table, and what a zone or a doorway takes. Later proofs cite these and unfold nothing. -/

namespace Sys2Proof.Machine

/-! ### Arithmetic -/

/-- A clamped number lies in its range. -/
theorem clamp_bounds {lo hi : Int} (h : lo ≤ hi) (x : Int) : lo ≤ clamp lo hi x ∧ clamp lo hi x ≤ hi := by
  unfold clamp; omega

/-- A number in the range is its own clamp, and no other is. -/
theorem clamp_eq_iff {lo hi : Int} (h : lo ≤ hi) (x : Int) : clamp lo hi x = x ↔ lo ≤ x ∧ x ≤ hi := by
  unfold clamp; omega

/-- A share of at most the whole is at most the part. -/
theorem share_le {x n d : Nat} (h : n ≤ d) : share x n d ≤ x := by
  unfold share
  rcases Nat.eq_zero_or_pos d with rfl | hd
  · simp
  · exact Nat.div_le_of_le_mul (by rw [Nat.mul_comm d x]; exact Nat.mul_le_mul_left x h)

/-- A duty is an on-fraction, and drives no more than the grant it is made of. -/
theorem dutyOf_spec (grant rating : Nat) : dutyOf grant rating ≤ 1000 ∧ rating * dutyOf grant rating ≤ 1000 * grant := by
  unfold dutyOf
  refine ⟨Nat.min_le_left _ _, ?_⟩
  calc rating * min 1000 (grant * 1000 / rating) ≤ rating * (grant * 1000 / rating) :=
        Nat.mul_le_mul_left _ (Nat.min_le_right _ _)
    _ ≤ grant * 1000 := Nat.mul_div_le _ _
    _ = 1000 * grant := Nat.mul_comm _ _

@[simp] theorem dutyOf_zero_rating (grant : Nat) : dutyOf grant 0 = 0 := by simp [dutyOf]

@[simp] theorem dutyOf_zero_grant (rating : Nat) : dutyOf 0 rating = 0 := by simp [dutyOf]

/-! ### Sets of zones -/

@[simp] theorem mem_zonesOf (zs : ZoneSet) (z : ZoneId) : z ∈ zonesOf zs ↔ hasZone zs z = true := by simp [zonesOf]

theorem hasZone_oneZone (y z : ZoneId) : hasZone (oneZone y) z = decide (z = y) := by decide +revert

theorem hasZone_allZones (z : ZoneId) : hasZone allZones z = true := by decide +revert

/-- Two sets of zones meet exactly where they share a zone. -/
theorem zones_meet_iff (a b : ZoneSet) : (a &&& b != 0) = true ↔ ∃ z, hasZone a z = true ∧ hasZone b z = true := by
  constructor
  · intro h
    have hne : a &&& b ≠ 0 := by simpa using h
    refine Classical.byContradiction fun hn => hne (BitVec.eq_of_getLsbD_eq fun i hi => ?_)
    cases hb : (a &&& b).getLsbD i with
    | false => simp
    | true => exact absurd ⟨⟨i, hi⟩, by simpa [hasZone] using hb⟩ hn
  · rintro ⟨z, ha, hb⟩
    have hne : a &&& b ≠ 0 := by
      intro h0
      have h1 : (a &&& b).getLsbD z.val = false := by rw [h0]; exact BitVec.getLsbD_zero
      simp only [hasZone] at ha hb
      rw [BitVec.getLsbD_and, ha, hb] at h1
      cases h1
    simpa using hne

/-! ### Timers -/

@[simp] theorem State.onExpiry_none (s : State) (f : State → State) : s.onExpiry none f = s := rfl

@[simp] theorem State.onExpiry_some (s : State) (e : Nat) (f : State → State) :
    s.onExpiry (some e) f = f (s.atTime e) := rfl

/-- A timer that runs is due at its expiry, and a stopped one is not. -/
theorem mem_dueAt (t : Timer) (j : Instr) (e : Nat) (i : Instr) : (e, i) ∈ dueAt t j ↔ i = j ∧ t = some e := by
  cases t with
  | none => simp [dueAt]
  | some x =>
    simp only [dueAt, List.mem_singleton, Prod.mk.injEq, Option.some.injEq]
    exact ⟨fun h => ⟨h.2, h.1.symm⟩, fun h => ⟨h.2.symm, h.1⟩⟩

/-- The earliest of a list of events is one of them, due no later than every other. -/
theorem earliest_spec (x : Nat × Instr) (xs : List (Nat × Instr)) :
    ∃ y ∈ x :: xs, earliest x xs = y.2 ∧ ∀ w ∈ x :: xs, y.1 ≤ w.1 := by
  induction xs generalizing x with
  | nil => exact ⟨x, by simp, rfl, by simp⟩
  | cons a as ih =>
    unfold earliest
    split
    · next h =>
      obtain ⟨y, hy, he, hle⟩ := ih a
      refine ⟨y, List.mem_cons_of_mem _ hy, he, ?_⟩
      intro w hw
      simp only [List.mem_cons] at hw
      rcases hw with rfl | hw
      · have := hle a (by simp); omega
      · exact hle w (by simpa using hw)
    · next h =>
      obtain ⟨y, hy, he, hle⟩ := ih x
      refine ⟨y, by rcases List.mem_cons.mp hy with rfl | hy <;> simp [*], he, ?_⟩
      intro w hw
      simp only [List.mem_cons] at hw
      rcases hw with rfl | rfl | hw
      · exact hle _ (by simp)
      · have := hle x (by simp); omega
      · exact hle w (by simp [hw])

/-! ### Waiting postings -/

@[simp] theorem takePosting_nil : takePosting [] = none := rfl

/-- The oldest posting is taken, unless it is the banks' RESTART. -/
theorem takePosting_oldest {p : Instr} (rest : List Instr) (h : p ≠ .bankControllerRestart) :
    takePosting (p :: rest) = some (p, rest) := by simp [takePosting, h]

/-- The banks' RESTART is taken where no duty waits behind it; else the first of those duties is. -/
theorem takePosting_restart (rest : List Instr) :
    takePosting (.bankControllerRestart :: rest) =
      match rest.find? Instr.isDuty with
      | some q => some (q, .bankControllerRestart :: rest.erase q)
      | none => some (.bankControllerRestart, rest) := by
  cases h : rest.find? Instr.isDuty <;> simp [takePosting, h]

/-- The first duty waiting behind the banks' RESTART is taken, and the rest keep their order. -/
theorem takePosting_duty (before : List Instr) (c : ChanId) (x : PostedDuty) (after : List Instr)
    (h : ∀ c' x', Instr.dutyPosting c' x' ∉ before) :
    takePosting (.bankControllerRestart :: (before ++ .dutyPosting c x :: after)) =
      some (.dutyPosting c x, .bankControllerRestart :: (before ++ after)) := by
  have hb : before.find? Instr.isDuty = none := by
    rw [List.find?_eq_none]
    intro i hi hd
    cases i <;> simp [Instr.isDuty] at hd
    exact h _ _ hi
  have hf : (before ++ .dutyPosting c x :: after).find? Instr.isDuty = some (.dutyPosting c x) := by
    simp [List.find?_append, hb, Instr.isDuty]
  rw [takePosting_restart, hf]
  simp [List.erase_append_right _ (h c x)]

/-- What is taken was waiting, and nothing else leaves the queue. -/
theorem takePosting_perm {l rest : List Instr} {p : Instr} (h : takePosting l = some (p, rest)) :
    List.Perm l (p :: rest) := by
  cases l with
  | nil => cases h
  | cons q qs =>
    simp only [takePosting] at h
    split at h
    · split at h
      · next x hx =>
        simp only [Option.some.injEq, Prod.mk.injEq] at h
        obtain ⟨rfl, rfl⟩ := h
        exact ((List.perm_cons_erase (List.mem_of_find?_eq_some hx)).cons q).trans (List.Perm.swap _ _ _)
      · simp only [Option.some.injEq, Prod.mk.injEq] at h; obtain ⟨rfl, rfl⟩ := h; exact .refl _
    · simp only [Option.some.injEq, Prod.mk.injEq] at h; obtain ⟨rfl, rfl⟩ := h; exact .refl _

/-! ### Frames at the port -/

/-- A frame whose origin is taken: the owning block's answer, and its reply. -/
theorem State.frame_taken {s : State} {code : Byte} {h : Header} {payload : List Byte} {allowed : Origin → Bool}
    (body : State → Answer) (ha : allowed h.origin = true) :
    s.frame code h payload allowed body =
      (body (s.taken code h payload)).state.reply code (body (s.taken code h payload)).status
        (body (s.taken code h payload)).payload := by
  simp [State.frame, ha]

/-- A frame whose origin is not taken: refused DENIED. -/
theorem State.frame_denied {s : State} {code : Byte} {h : Header} {payload : List Byte} {allowed : Origin → Bool}
    (body : State → Answer) (ha : allowed h.origin = false) :
    s.frame code h payload allowed body = s.refused code h payload .denied := by
  simp [State.frame, ha, State.refuse]

@[simp] theorem anyOrigin_eq (o : Origin) : anyOrigin o = true := rfl

@[simp] theorem fleetOrService_iff (o : Origin) : fleetOrService o = true ↔ o = .fleet ∨ o = .service := by
  cases o <;> simp [fleetOrService]

@[simp] theorem notDriver_iff (o : Origin) : notDriver o = true ↔ o ≠ .driver := by cases o <;> simp [notDriver]

@[simp] theorem serviceOnly_iff (o : Origin) : serviceOnly o = true ↔ o = .service := by cases o <;> simp [serviceOnly]

/-! ### Slots of the Order Table -/

/-- Changing the slots that are accepted changes each of them and no other. -/
theorem State.mapSlots_slot (s : State) (f : Slot → Slot) (p : SlotId → Entry → Bool) (k : SlotId) :
    (s.mapSlots f p).slot k =
      match (s.slot k).entry with
      | none => s.slot k
      | some e => if p k e then f (s.slot k) else s.slot k :=
  Tab.get_build _ k

/-- The orders listed are those in use that are accepted. -/
theorem State.mem_ordersWhere (s : State) (p : SlotId → Entry → Bool) (k : SlotId) (o : OrderRec) :
    (k, o) ∈ s.ordersWhere p ↔ ∃ e, (s.slot k).entry = some e ∧ p k e = true ∧ e.ord = o := by
  simp only [State.ordersWhere, List.mem_filterMap, List.mem_finRange, true_and]
  constructor
  · rintro ⟨j, hj⟩
    split at hj
    · cases hj
    · next e he =>
      split at hj
      · next hp => simp only [Option.some.injEq, Prod.mk.injEq] at hj; obtain ⟨rfl, rfl⟩ := hj; exact ⟨e, he, hp, rfl⟩
      · cases hj
  · rintro ⟨e, he, hp, rfl⟩
    exact ⟨k, by simp [he, hp]⟩

/-- The orders that take part are those in use whose state is IN_FORCE or TAILING (R52). -/
theorem mem_inForceOrders (slots : Vector Slot 64) (k : SlotId) (o : OrderRec) :
    (k, o) ∈ inForceOrders slots ↔ ∃ e, (Tab.get slots k).entry = some e ∧ takesPart e.live = true ∧ e.ord = o := by
  simp only [inForceOrders, List.mem_filterMap, List.mem_finRange, true_and]
  constructor
  · rintro ⟨j, hj⟩
    split at hj
    · cases hj
    · next e he =>
      split at hj
      · next hp => simp only [Option.some.injEq, Prod.mk.injEq] at hj; obtain ⟨rfl, rfl⟩ := hj; exact ⟨e, he, hp, rfl⟩
      · cases hj
  · rintro ⟨e, he, hp, rfl⟩
    exact ⟨k, by simp [he, hp]⟩

/-- Retiring the order of a slot in use frees the slot, advances its generation and resolves what it covered. -/
theorem State.retireOrder_some {s : State} {k : SlotId} {e : Entry} (h : (s.slot k).entry = some e) :
    s.retireOrder k = (s.setSlot k { gen := (s.slot k).gen + 1, entry := none }).resolveOrder e.ord := by
  simp [State.retireOrder, h, Slot.retired]

/-- A free slot has no order to retire. -/
theorem State.retireOrder_none {s : State} {k : SlotId} (h : (s.slot k).entry = none) : s.retireOrder k = s := by
  simp [State.retireOrder, h]

theorem State.changeEntry_some {s : State} {k : SlotId} {e : Entry} (f : Entry → Entry)
    (h : (s.slot k).entry = some e) : s.changeEntry k f = s.setSlot k { s.slot k with entry := some (f e) } := by
  simp [State.changeEntry, h]

theorem State.changeEntry_none {s : State} {k : SlotId} (f : Entry → Entry) (h : (s.slot k).entry = none) :
    s.changeEntry k f = s := by
  simp [State.changeEntry, h]

/-- Resolution reaches the Order Table and the waiting postings alone. -/
theorem State.resolve_onlyOrders (s : State) (zs : ZoneSet) (scr : Bool) : onlyOrders s (s.resolve zs scr) := by
  simp only [onlyOrders, State.resolve]

/-- A slot after a resolution holds the same order in the same state, with an effect. -/
theorem State.resolve_slot (s : State) (zs : ZoneSet) (scr : Bool) (k : SlotId) :
    ((s.resolve zs scr).slot k).plain = (s.slot k).plain ∧ ((s.resolve zs scr).slot k).gen = (s.slot k).gen := by
  simp only [State.resolve, State.slot, OrderTable.resolved, Tab.get_build]
  cases h : (Tab.get s.orders.slots k).entry with
  | none => simp
  | some e =>
    simp only
    split <;> simp [Slot.plain, Entry.plain, h]

/-! ### Channels -/

/-- The owning consumer's duty is stored. -/
theorem State.storeDuty_owned {s : State} {c : ChanId} {x : PostedDuty}
    (h : (s.chanRec c).type.consumer = some x.poster) :
    s.storeDuty c x = s.setChan c { s.chan c with duty := x.duty } := if_pos h

/-- Another's is not. -/
theorem State.storeDuty_other {s : State} {c : ChanId} {x : PostedDuty}
    (h : (s.chanRec c).type.consumer ≠ some x.poster) : s.storeDuty c x = s := if_neg h

@[simp] theorem postOnce_nil {α : Type} (f : α → List α → Instr) : postOnce f [] = [] := rfl

@[simp] theorem postOnce_cons {α : Type} (f : α → List α → Instr) (x : α) (xs : List α) :
    postOnce f (x :: xs) = [f x xs] := rfl

/-- A posting of available heat without a change at any member only records it. -/
theorem State.recordHeats_same {s : State} {l : List (PoolMember × Nat)} (h : ∀ b, s.heatDiffers l b = false) :
    s.recordHeats l = l.foldl State.putHeat s := by simp [State.recordHeats, h]

/-! ### Zones and doorways -/

/-- What an expiry reads is kept for a lowered cap, which leaves it (R3, R102). -/
@[simp] theorem Regulator.reads_freshRead (g : Regulator) (x : ZoneInputs) : (g.reads x).freshRead = x.cfg.minFresh := rfl
@[simp] theorem Regulator.reads_fanRead (g : Regulator) (x : ZoneInputs) : (g.reads x).fanRead = x.fanOrder := rfl
@[simp] theorem Regulator.outputs_fresh (g : Regulator) : g.outputs.fresh = freshDemand g.freshRead g.u := rfl
@[simp] theorem Regulator.outputs_freshRead (g : Regulator) : g.outputs.freshRead = g.freshRead := rfl
@[simp] theorem Regulator.outputs_u (g : Regulator) : g.outputs.u = g.u := rfl
@[simp] theorem Regulator.rest_fresh (g : Regulator) (m : Nat) : (g.rest m).fresh = m := rfl
@[simp] theorem Regulator.rest_freshRead (g : Regulator) (m : Nat) : (g.rest m).freshRead = m := rfl

/-- Without demand for cooling the fresh-air demand is the minimum (R95). -/
theorem freshDemand_of_nonneg {m : Nat} {u : Int} (h : 0 ≤ u) : freshDemand m u = m := if_pos h

/-- The fresh-air demand lies between the minimum and 100 % (R95). -/
theorem freshDemand_bounds {m : Nat} {u : Int} (hm : m ≤ 100) (hu : -1000 ≤ u) :
    m ≤ freshDemand m u ∧ freshDemand m u ≤ 100 := by
  unfold freshDemand
  split
  · exact ⟨Nat.le_refl m, hm⟩
  · have hn : (-u).toNat ≤ 1000 := by omega
    have hq : (-u).toNat * (100 - m) / 1000 ≤ 100 - m :=
      Nat.div_le_of_le_mul (Nat.mul_le_mul_right (100 - m) hn)
    omega

/-- A lowered cap keeps the minimum read, and keeps the fresh-air demand that of the demand (R95, R102). -/
@[simp] theorem Regulator.capped_freshRead (g : Regulator) (cap : Nat) : (g.capped cap).freshRead = g.freshRead := by
  unfold Regulator.capped
  split
  · rfl
  · split <;> rfl

theorem Regulator.capped_fresh {g : Regulator} (cap : Nat) (h : g.fresh = freshDemand g.freshRead g.u) :
    (g.capped cap).fresh = freshDemand (g.capped cap).freshRead (g.capped cap).u := by
  unfold Regulator.capped
  split
  · rfl
  · split
    · rfl
    · exact h

@[simp] theorem State.zoneTakes_reg (s : State) (z : ZoneId) (x : Regulator) : (s.zoneTakes z x).reg z = x := by
  simp [State.zoneTakes, State.reg, State.setReg, State.post]

/-- A zone that takes a record leaves all but its record and the waiting postings. -/
theorem State.zoneTakes_frame (s : State) (z : ZoneId) (x : Regulator) :
    s.zoneTakes z x = { s with regs := Tab.put s.regs z x, posts := s.posts ++ s.zonePostings z (s.reg z) x } := rfl

/-- Posting the drafts changes those last posted and the waiting postings alone. -/
theorem State.postDrafts_frame (s : State) :
    s.postDrafts = { s with
      mon := { s.mon with posted := s.postDrafts.mon.posted }
      posts := s.postDrafts.posts } := rfl

/-- A curtain request that differs is stored and posted, and one that does not is neither. -/
theorem State.postCurtain_spec (s : State) (d : DoorId) :
    (s.curtainRequest d = (s.door d).request → s.postCurtain d = s) ∧
    (s.curtainRequest d ≠ (s.door d).request →
      s.postCurtain d = (s.setDoor d { s.door d with request := s.curtainRequest d }).post
        [.lineRequestPosting (.curtain d) (s.curtainRequest d)]) :=
  ⟨fun h => by simp [State.postCurtain, h], fun h => by simp [State.postCurtain, h]⟩

end Sys2Proof.Machine
end

