-- ==== Sys2Proof/Laws/Operands.lean ====
section
/-! SUPPORT. One lemma for each operand form and each way of combining orders or pool members: what a word, a number of an
object or a handle reads as, the winner by rank, and the sums and extremes that resolution and sharing take. -/

namespace Sys2Proof.Machine

/-! ### Words, numbers of objects, handles (R185, R191) -/

/-- A word is the two bytes it is sent as. -/
theorem Word.ofBytes_bytes (w : Word) : Word.ofBytes w.hi w.lo = w := by
  apply BitVec.eq_of_getLsbD_eq
  intro i hi
  simp only [Word.ofBytes, Word.hi, Word.lo, BitVec.getLsbD_or, BitVec.getLsbD_shiftLeft, BitVec.getLsbD_setWidth,
    BitVec.getLsbD_ushiftRight]
  by_cases h : i < 8
  · simp [h, hi]
  · have : i - 8 < 8 := by omega
    have e : 8 + (i - 8) = i := by omega
    simp [h, hi, this, e]
    omega

/-- A number is clamped to its range, and marked exactly where that changes it. -/
theorem number_spec {lo hi : Int} (h : lo ≤ hi) (w : Word) :
    lo ≤ (number lo hi w).1 ∧ (number lo hi w).1 ≤ hi ∧ ((number lo hi w).2 = false ↔ lo ≤ w.toInt ∧ w.toInt ≤ hi) := by
  refine ⟨(clamp_bounds h _).1, (clamp_bounds h _).2, ?_⟩
  simp [number, clamp_eq_iff h]

/-- A natural number is clamped to its range. -/
theorem natural_spec {lo hi : Nat} (h : lo ≤ hi) (w : Word) :
    ((natural lo hi w).1 : Int) = clamp lo hi w.toInt ∧ lo ≤ (natural lo hi w).1 ∧ (natural lo hi w).1 ≤ hi := by
  have b := clamp_bounds (lo := (lo : Int)) (hi := hi) (by omega) w.toInt
  simp only [natural, number]
  omega

/-- A byte names an object exactly where it is the object's number. -/
theorem objectOf_eq_some {n : Nat} {b : Byte} {i : Fin n} : objectOf n b = some i ↔ b.toNat = i.val := by
  unfold objectOf
  split
  · next h => simp [Fin.ext_iff]
  · next h => simp only [reduceCtorEq, false_iff]; omega

/-- A byte names no object exactly where it is too great. -/
theorem objectOf_eq_none {n : Nat} {b : Byte} : objectOf n b = none ↔ n ≤ b.toNat := by
  unfold objectOf
  split
  · next h => simp; omega
  · next h => simp; omega

/-- A handle names a slot and a generation exactly where both bytes are in their ranges. -/
theorem handleOf_eq_some {hb : HandleBytes} {k : SlotId} {g : BitVec 4} :
    handleOf hb = some (k, g) ↔ hb.slot.toNat = k.val ∧ hb.gen.toNat = g.toNat := by
  unfold handleOf
  cases h : objectOf 64 hb.slot with
  | none =>
    rw [objectOf_eq_none] at h
    simp only [reduceCtorEq, false_iff]
    omega
  | some n =>
    rw [objectOf_eq_some] at h
    simp only
    split
    · next hg =>
      simp only [Option.some.injEq, Prod.mk.injEq, Fin.ext_iff, h]
      refine and_congr_right fun _ => ⟨?_, ?_⟩
      · rintro rfl; simp; omega
      · intro e; apply BitVec.eq_of_toNat_eq; simp [e]; omega
    · next hg =>
      simp only [reduceCtorEq, false_iff]
      have := g.isLt
      omega

/-! ### Sums and extremes -/

theorem foldl_add_eq_sum {α : Type} (l : List α) (f : α → Nat) (n : Nat) :
    l.foldl (fun m x => m + f x) n = n + (l.map f).sum := by
  induction l generalizing n with
  | nil => simp
  | cons a as ih => simp [ih, Nat.add_assoc]

theorem foldl_add_eq_sum_int {α : Type} (l : List α) (f : α → Int) (n : Int) :
    l.foldl (fun m x => m + f x) n = n + (l.map f).sum := by
  induction l generalizing n with
  | nil => simp
  | cons a as ih => simp [ih, Int.add_assoc]

/-- The greatest of a start value and a list's values bounds them all, and is one of them. -/
theorem foldl_max_spec {α : Type} (l : List α) (f : α → Int) (n : Int) :
    n ≤ l.foldl (fun m x => max m (f x)) n ∧ (∀ x ∈ l, f x ≤ l.foldl (fun m x => max m (f x)) n) ∧
      (l.foldl (fun m x => max m (f x)) n = n ∨ ∃ x ∈ l, l.foldl (fun m x => max m (f x)) n = f x) := by
  induction l generalizing n with
  | nil => simp
  | cons a as ih =>
    obtain ⟨h1, h2, h3⟩ := ih (max n (f a))
    simp only [List.foldl_cons]
    refine ⟨by omega, ?_, ?_⟩
    · intro x hx
      rcases List.mem_cons.mp hx with rfl | hx
      · omega
      · exact h2 x hx
    · rcases h3 with h3 | ⟨x, hx, h3⟩
      · rw [h3]
        rcases Int.le_total n (f a) with h | h
        · exact .inr ⟨a, by simp, by omega⟩
        · exact .inl (by omega)
      · exact .inr ⟨x, List.mem_cons_of_mem _ hx, h3⟩

/-! ### The winner by rank (R53, R57) -/

/-- The winner is one of the orders, none is of a lower rank, and those before it in the list are of a higher rank. -/
theorem winner_spec (l : List (SlotId × OrderRec)) :
    (winner l = none ↔ l = []) ∧
    ∀ x, winner l = some x → ∃ before after, l = before ++ x :: after ∧
      (∀ y ∈ before, x.2.source.rank < y.2.source.rank) ∧ ∀ y ∈ after, x.2.source.rank ≤ y.2.source.rank := by
  induction l with
  | nil => simp [winner]
  | cons a as ih =>
    obtain ⟨h0, h1⟩ := ih
    unfold winner
    cases hw : winner as with
    | none =>
      obtain rfl := h0.mp hw
      simp only [reduceCtorEq, Option.some.injEq]
      refine ⟨by simp, ?_⟩
      rintro x rfl
      exact ⟨[], [], rfl, by simp, by simp⟩
    | some y =>
      obtain ⟨b, c, rfl, hb, hc⟩ := h1 y hw
      simp only
      split
      · next h =>
        simp only [reduceCtorEq, Option.some.injEq]
        refine ⟨by simp, ?_⟩
        rintro x rfl
        refine ⟨a :: b, c, rfl, ?_, hc⟩
        intro w hw
        rcases List.mem_cons.mp hw with rfl | hw
        · exact h
        · exact hb w hw
      · next h =>
        simp only [reduceCtorEq, Option.some.injEq]
        refine ⟨by simp, ?_⟩
        rintro x rfl
        refine ⟨[], b ++ y :: c, rfl, by simp, ?_⟩
        intro w hw
        rcases List.mem_append.mp hw with hw | hw
        · have := hb w hw; omega
        · rcases List.mem_cons.mp hw with rfl | hw
          · omega
          · have := hc w hw; omega

/-! ### Sharing (R160) -/

/-- A grant is at most the effective request, and the grants of a class at most what remained. -/
theorem grantIn_le (remaining total effective : Nat) : grantIn remaining total effective ≤ effective := by
  unfold grantIn
  split
  · exact Nat.le_refl _
  · exact share_le (by omega)

end Sys2Proof.Machine
end

