-- ==== Sys2Proof/Tests/Slice0.lean ====
section
/-! SUPPORT. Tests: what WellFormed refuses, frames written out from the layouts of chapter 10, one step on a small state
for the worked examples and tables of the spec (expected values from the rule each names), and for each statement with
hypotheses a witness that meets them. -/

namespace Sys2Proof.Tests

open Sys2Proof Sys2Proof.Machine

/-! ### Small states -/

def service : Header := { origin := .service, pad := [] }
def driver : Header := { origin := .driver, pad := [] }
def fleet : Header := { origin := .fleet, pad := [] }
def depot : Header := { origin := .depot, pad := [] }

/-- The state a command leaves. -/
def after (c : Instr) (s : State) : State :=
  match exec c s with
  | .next t => t
  | .fault _ | .refused _ => State.reset

/-- The status of the reply to a command. -/
def answers (c : Instr) (s : State) : Status := (after c s).link.reply.status

/-- An order with no condition. -/
def anOrder (source : Source) (kind : Kind) (zones : ZoneSet) (value : Int) (mode : Lifetime) : OrderRec :=
  { source := source, kind := kind, zones := zones, value := value, select := 0, sense := .whenTrue, mode := mode
    count := 5, onTime := 0, persist := false }

/-- Live fields of an order whose condition holds. -/
def live (state : OrderState) (remaining : Nat) : OrderLive :=
  { state := state, remaining := remaining, period := 0, offTime := 0, holds := true, effect := .none }

/-- The state with an order in a slot. -/
def withOrder (s : State) (k : SlotId) (o : OrderRec) (l : OrderLive) : State :=
  s.setSlot k { gen := (s.slot k).gen, entry := some { ord := o, live := l, latch := none } }

/-- The state with a channel configured. -/
def withChan (s : State) (c : ChanId) (t : ChanType) (rated group : Nat) : State :=
  { s with cfg := { s.cfg with
    chans := Tab.put s.cfg.chans c { type := t, rated := rated, group := group, limit := 800, enabled := true } } }

/-- The state with a sensor channel configured. -/
def withSensor (s : State) (k : SensorId) (role : Role) (origin : SensorOrigin) : State :=
  { s with cfg := { s.cfg with
    sensors := Tab.put s.cfg.sensors k { role := role, origin := origin, hold := 30, run := 3 } } }

/-- A bank in a state, supplied from the line. -/
def aBank (x : BankState) (ramp : Nat) : Bank :=
  { Bank.reset with state := x, ramp := ramp, supply := .line }

/-! ### What WellFormed refuses -/

theorem test_wf_refuses_malformed_frame_that_is_good : WellFormed (.malformedFrame [0x60, 0, 0]) = false := by decide
theorem test_wf_refuses_empty_malformed_frame : WellFormed (.malformedFrame []) = false := by decide
theorem test_wf_refuses_known_kind_as_unknown : WellFormed (.configureZone fleet (.unknownKind 7 [0])) = false := by decide
theorem test_wf_refuses_unknown_kind_without_index : WellFormed (.configureZone fleet (.unknownKind 8 [])) = false := by
  decide
theorem test_wf_refuses_unknown_kind_too_long :
    WellFormed (.configureZone fleet (.unknownKind 8 (List.replicate 28 0))) = false := by decide
theorem test_wf_refuses_reading : WellFormed (.conversionArrival 0 32768) = false := by decide
theorem test_wf_refuses_zone_grant : WellFormed (.zoneGrant 0 3201) = false := by decide
theorem test_wf_refuses_draft : WellFormed (.draftPosting 0 1001) = false := by decide
theorem test_wf_refuses_cap : WellFormed (.capLowered 0 101) = false := by decide
theorem test_wf_refuses_target : WellFormed (.zoneTargetPosting 0 (some 301)) = false := by decide
theorem test_wf_refuses_to : WellFormed (.toPosting (-501)) = false := by decide
theorem test_wf_refuses_curtain_grant : WellFormed (.curtainGrant 0 101) = false := by decide
theorem test_wf_refuses_fresh_air : WellFormed (.freshAirPosting 0 101) = false := by decide
theorem test_wf_refuses_humidity : WellFormed (.screenSensorPosting none 0 true none (some 1001)) = false := by decide
theorem test_wf_refuses_glass : WellFormed (.screenSensorPosting none 0 true (some 851) none) = false := by decide
theorem test_wf_refuses_cab_air : WellFormed (.screenSensorPosting (some (-501)) 0 true none none) = false := by decide
theorem test_wf_refuses_watch_value : WellFormed (.watchPosting .fog (some 3)) = false := by decide
theorem test_wf_refuses_level : WellFormed (.screenLevelPosting 3) = false := by decide
theorem test_wf_refuses_fan : WellFormed (.zone0Posting 8 0) = false := by decide
theorem test_wf_refuses_cab_fresh_air : WellFormed (.zone0Posting 0 101) = false := by decide
theorem test_wf_refuses_aux_grant : WellFormed (.auxGrant 0 101) = false := by decide
theorem test_wf_refuses_doorway_without_zones : WellFormed (.conditionPosting (.doorway 0 .opened 0)) = false := by decide
theorem test_wf_refuses_outside : WellFormed (.conditionPosting (.outside 851 true)) = false := by decide
theorem test_wf_refuses_thresholds : WellFormed (.conditionPosting (.thresholds 101 220)) = false := by decide
theorem test_wf_refuses_line : WellFormed (.lineReading 1501 false) = false := by decide
theorem test_wf_refuses_line_request :
    WellFormed (.lineRequestPosting (.zone 0) 3201) = false ∧ WellFormed (.lineRequestPosting (.curtain 0) 101) = false := by
  decide
theorem test_wf_refuses_no_curtain : WellFormed (.curtainChannelPosting []) = false := by decide
theorem test_wf_refuses_aux_request : WellFormed (.auxRequestPosting 0 101) = false := by decide
theorem test_wf_refuses_heat :
    WellFormed (.availableHeatPosting (.line (.zone 0), 3201) []) = false ∧
      WellFormed (.availableHeatPosting (.line (.zone 0), 3200) [(.aux 0, 101)]) = false := by decide
theorem test_wf_refuses_allowance : WellFormed (.allocatorAllowancePosting 1201) = false := by decide
theorem test_wf_refuses_supply_allowance : WellFormed (.allocatorSupplyPosting .line 1201) = false := by decide
theorem test_wf_refuses_mode_allowance : WellFormed (.allocatorModePosting .run 1201) = false := by decide
theorem test_wf_refuses_aux_allowance : WellFormed (.auxAllowancePosting 101) = false := by decide
theorem test_wf_refuses_duty : WellFormed (.dutyPosting 0 ⟨.zone 0, 1001⟩) = false := by decide
theorem test_wf_refuses_surface : WellFormed (.surfacePosting 0 (.reading 2001)) = false := by decide
theorem test_wf_refuses_link : WellFormed (.prechargeCompletion 0 1501) = false := by decide

/-! ### Frames written out from R182, R185, R191 and R192 -/

/-- HOLD at 20.0 °C on zones 0 to 3, WHEN V_NIGHT, persistent, COUNTDOWN of 300 s, from FLEET, with a padding byte. -/
theorem test_frame_place :
    decodeFrame [0x10, 2, 14, 0x00, 0x00, 0x0F, 0x00, 0xC8, 0x00, 0x08, 0x02, 0x00, 0x01, 0x01, 0x2C, 0x00, 0x00, 0xAA] =
      some (.place { origin := .fleet, pad := [0xAA] }
        { kind := 0, zones := 0x0F, value := 200, select := 0x0008, flags := 2, mode := 1, count := 300, onTime := 0 }) := by
  decide

/-- SENSE of channel 9 with −23.0 °C, from SERVICE. -/
theorem test_frame_sense : decodeFrame [0x33, 0, 3, 9, 0xFF, 0x1A] = some (.sense service 9 (BitVec.ofInt 16 (-230))) := by
  decide

/-- VEHICLE: moving at night, one to eight persons. -/
theorem test_frame_vehicle :
    decodeFrame [0x30, 2, 9, 0x09, 1, 2, 3, 4, 5, 6, 7, 8] =
      some (.vehicle fleet { flags := 9, occupancy := #v[1, 2, 3, 4, 5, 6, 7, 8] }) := by decide

/-- CONFIGURE channel 19 as a convector of zone 4, 6.0 kW, group 3, limit 80.0 °C, enabled. -/
theorem test_frame_configure_channel :
    decodeFrame [0x40, 0, 12, 2, 19, 0x01, 0x04, 0x00, 0x3C, 0x00, 0x03, 0x03, 0x20, 0x00, 0x01] =
      some (.configureChannel service 19 { type := 0x0104, rated := 60, group := 3, limit := 800, enabled := 1 }) := by
  decide

/-- CURVE_DATA's two forms are told apart by their length, MODE and RESTART by their codes. -/
theorem test_frame_curve_mode_restart :
    decodeFrame [0x42, 2, 2, 0x03, 0xB6] = some (.curveDataWrite fleet 950) ∧
      decodeFrame [0x42, 2, 0] = some (.curveDataRead fleet) ∧
      decodeFrame [0x34, 3, 1, 0] = some (.mode depot 0) ∧ decodeFrame [0x53, 0, 0] = some (.restart service) := by decide

/-- R182's five ways to be malformed, and n among the bytes received. -/
theorem test_frame_malformed :
    decodeFrame [0x60, 0] = some (.malformedFrame [0x60, 0]) ∧
      decodeFrame [0x99, 0, 0] = some (.malformedFrame [0x99, 0, 0]) ∧
      decodeFrame [0x60, 4, 0] = some (.malformedFrame [0x60, 4, 0]) ∧
      decodeFrame [0x31, 2, 1, 7] = some (.malformedFrame [0x31, 2, 1, 7]) ∧
      decodeFrame [0x31, 2, 2, 7] = some (.malformedFrame [0x31, 2, 2, 7]) := by decide

/-- A CONFIGURE of no record kind passes the frame check and is refused BAD_FIELD (R182, R1). -/
theorem test_unknown_kind_is_bad_field :
    decodeFrame [0x40, 2, 2, 9, 0] = some (.configureZone fleet (.unknownKind 9 [0])) ∧
      answers (.configureZone fleet (.unknownKind 9 [0])) State.reset = .badField := by decide

theorem test_table_has_no_bits : decodeTableWord 8 0 = none := by decide

/-! ### The step -/

theorem test_step_takes_command_before_posting :
    step { State.reset with pending := [.scanExpiry], posts := [.orderTableRestart] } =
      exec .scanExpiry { State.reset with posts := [.orderTableRestart] } := by rfl

/-- From reset the part's own first event is the line reading at 20 ms (R139). -/
theorem test_first_own_event : State.reset.ownEvent = .lineReading 0 false := by decide

/-! ### The link (chapters 01 and 10) -/

/-- The sixteenth write takes the pointer to 16, the seventeenth is refused (Loading and checking the curve). -/
theorem test_curve_seventeenth_write :
    let s := { State.reset with link := { State.reset.link with curvePtr := 15 } }
    let t := after (.curveDataWrite fleet 0) s
    t.link.curvePtr = 16 ∧ answers (.curveDataWrite fleet 0) t = .badField := by decide

theorem test_curve_write_is_clamped :
    answers (.curveDataWrite fleet 1001) State.reset = .adjusted ∧
      Tab.get (after (.curveDataWrite fleet 1001) State.reset).cfg.curve 0 = 1000 := by decide

theorem test_curve_read : (after (.curveDataRead fleet) State.reset).link.reply.payload = [0, 0, 0x03, 0xE8] := by decide

theorem test_curve_pointer : (after (.curvePointer fleet 15) State.reset).link.curvePtr = 15 := by decide

theorem test_vehicle_occupancy_is_clamped :
    answers (.vehicle fleet { flags := 1, occupancy := #v[251, 0, 0, 0, 0, 0, 0, 0] }) State.reset = .adjusted := by decide

theorem test_cause_takes_the_lowest :
    let s := { State.reset with link := { State.reset.link with causes := 0x24 } }
    (after (.cause driver) s).link.reply.payload = [3, 0x24] ∧ (after (.cause driver) s).link.causes = 0x20 := by decide

theorem test_mask_releases_attn :
    let s := { State.reset with link := { State.reset.link with causes := 0x24 } }
    s.attn = true ∧ (after (.mask fleet 0x24) s).attn = false := by decide

theorem test_nop_keeps_the_reply :
    let s := after (.readBank fleet 0) State.reset
    (after (.nop fleet) s).link.reply = s.link.reply ∧ (after (.nop fleet) s).link.readPos = 3 := by decide

theorem test_malformed_frame_replies :
    (after (.malformedFrame [0x99]) State.reset).link.reply = { code := 0x99, status := .badFrame, payload := [] } ∧
      (after (.malformedFrame [0x99]) State.reset).link.causes = 0x80 := by decide

theorem test_restart_posts_to_fifteen_blocks_and_the_vehicle :
    (after (.restart service) State.reset).posts.length = 17 := by decide

theorem test_readouts_name_objects :
    answers (.readZone driver 7) State.reset = .done ∧ answers (.readZone driver 8) State.reset = .badField ∧
      answers (.readDoorway driver 6) State.reset = .badField ∧ answers (.readBank driver 4) State.reset = .badField ∧
      answers (.readChannel driver 36) State.reset = .badField ∧ answers (.readSensor driver 32) State.reset = .badField := by
  decide

/-- The fourth word of READ_DOORWAY is the time left on the debounce timer, in ms, and -1 once it is stopped (R119, R185). -/
theorem test_read_doorway_debounce :
    let s := State.reset.setDoor 2 { Door.reset with raw := true, debounceTimer := some 200 }
    ((after (.readDoorway driver 2) { s with now := 50 }).link.reply.payload.drop 6).take 2 = [0, 150] ∧
      ((after (.readDoorway driver 2) State.reset).link.reply.payload.drop 6).take 2 = [255, 255] := by decide

/-- READ_ZONE is 33 words (R185); an INACTIVE zone's Ts is −32768. -/
theorem test_read_zone_has_33_words : (after (.readZone driver 0) State.reset).link.reply.payload.length = 66 := by decide

theorem test_read_screen_and_supply :
    answers (.readScreen driver) State.reset = .done ∧ answers (.readSupply driver) State.reset = .done := by decide

/-! ### Orders (chapters 02 and 03) -/

/-- HOLD words. -/
def holdWords (zones : Byte) (value : Word) : OrderWords :=
  { kind := 0, zones := zones, value := value, select := 0, flags := 0, mode := 0, count := 1, onTime := 0 }

/-- A DRIVER's HOLD of 30.0 °C is stored as 26.0 °C, the driver band maximum (R27). -/
theorem test_place_driver_band :
    answers (.place driver (holdWords 1 300)) State.reset = .adjusted ∧
      ((after (.place driver (holdWords 1 300)) State.reset).target 0).hold = .setpoint 260 := by decide

theorem test_place_denied_and_bad :
    answers (.place depot { holdWords 1 0 with kind := 1 }) State.reset = .denied ∧
      answers (.place fleet (holdWords 0 200)) State.reset = .badField := by decide

theorem test_amend_of_reserved_slots :
    answers (.amend service { slot := 62, gen := 0 } (holdWords 1 200)) State.reset = .denied ∧
      answers (.amend service { slot := 63, gen := 0 } { holdWords 0 100 with kind := 2 }) State.reset = .done := by decide

theorem test_retire_advances_the_generation :
    let s := withOrder State.reset 3 (anOrder .fleet .cap 1 40 .standing) (live .inForce 5)
    ((after (.retire fleet { slot := 3, gen := 0 }) s).slot 3) = { gen := 1, entry := none } := by decide

theorem test_latch_once :
    answers (.latch driver { slot := 63, gen := 0 }) State.reset = .done ∧
      answers (.latch driver { slot := 63, gen := 0 }) (after (.latch driver { slot := 63, gen := 0 }) State.reset) = .held := by
  decide

/-- Slot 63: FLOOR on every zone at 5.0 °C, persistent, IN_FORCE with effect FULL (R48, R192). -/
theorem test_read_order_of_the_base_floor :
    (after (.readOrder driver { slot := 63, gen := 0 }) State.reset).link.reply.payload =
      [63, 0, 0x0A, 6, 0, 2, 0xFF, 0, 50, 0, 0, 2, 0, 0, 0, 1, 0, 0, 1, 0, 0, 1, 0, 0, 0, 0] := by decide

theorem test_list_orders :
    (after (.listOrders driver) { State.reset with orders := { State.reset.orders with retired := 0x8001 } }).link.reply.payload =
      [0xC0, 0, 0, 0, 0, 0, 0, 0, 0, 0, 0, 0, 0, 0, 0x80, 0x01] := by decide

/-- R54's example: +40, +30 and +25 sum to 95, clamped to 80; a fourth of −30 brings 65. -/
theorem test_offsets_add :
    let three := [(0, anOrder .fleet .offset 1 40 .standing), (1, anOrder .fleet .offset 1 30 .standing),
      (2, anOrder .fleet .offset 1 25 .standing)]
    offsetOf three 0 = 80 ∧ offsetOf (three ++ [(3, anOrder .fleet .offset 1 (-30) .standing)]) 0 = 65 := by decide

/-- The cases a to e of R59's table. -/
theorem test_effective_setpoints :
    let r : ZoneRec := .reset .a
    setpointOf (.setpoint 200) (-15) (some 100) r = some 185 ∧ setpointOf (.setpoint 270) 30 (some 50) r = some 280 ∧
      setpointOf (.setpoint 130) (-30) (some 150) r = some 150 ∧ setpointOf .off 40 (some 50) r = some 50 ∧
      setpointOf .off 0 none r = none := by decide

/-- R56's example: a doorway cap of 40 and a FLEET cap of 70 give 40. -/
theorem test_least_cap :
    capOf [(0, anOrder .fleet .cap 1 70 .standing), (56, anOrder .doorway .cap 1 40 .standing)] 0 = 40 := by decide

theorem test_boundary_retires_a_countdown :
    let s := withOrder State.reset 3 (anOrder .fleet .cap 1 40 .countdown) (live .inForce 1)
    ((after .timeBaseBoundary s).slot 3).entry = none ∧ (after .timeBaseBoundary s).orders.retired = 8 ∧
      (after .timeBaseBoundary s).link.causes = 0x40 := by decide

theorem test_countdown_expiry :
    let s := withOrder State.reset 3 (anOrder .fleet .cap 1 40 .countdown) (live .inForce 1)
    (after (.countdownExpiry 3) s).orders.retired = 8 := by decide

theorem test_order_tail_expiry :
    let s := withOrder State.reset 3 (anOrder .fleet .cap 1 40 .tail) (live .tailing 1)
    (((after (.orderTailExpiry 3) s).slot 3).entry.map (·.live.state)) = some .waiting := by decide

/-- A period of 5 s with on-time 0 has off-time 2 (R41). -/
theorem test_pulse_period_expiry :
    let s := withOrder State.reset 3 (anOrder .fleet .cap 1 40 .pulse) (live .resting 1)
    (((after (.pulsePeriodExpiry 3) s).slot 3).entry.map fun e => (e.live.remaining, e.live.offTime)) = some (5, 2) := by decide

/-- A TAIL order whose condition falls starts its tail (R40). -/
theorem test_condition_posting_starts_a_tail :
    let o := { anOrder .fleet .cap 1 40 .tail with select := 2 }
    let s := withOrder State.reset 3 o (live .inForce 5)
    (((after (.conditionPosting (.vehicle false false false false)) s).slot 3).entry.map (·.live.state)) =
      some .tailing := by decide

theorem test_watch_posting_gives_defrost : (after (.watchPosting .fog (some 2)) State.reset).orders.level = 2 := by decide

theorem test_park_clear_joins_the_set :
    let s := withOrder State.reset 3 (anOrder .fleet .cap 1 40 .standing) (live .inForce 5)
    (after .orderTableParkClear s).orders.retired = 8 := by decide

/-- In RUN the zones are resolved to their default setpoint (R53, R154). -/
theorem test_mode_posting_resolves :
    ((after (.orderTableModePosting .run) State.reset).target 7).ts = some 180 := by decide

theorem test_order_table_restart_joins_nothing :
    let s := withOrder State.reset 3 (anOrder .fleet .cap 1 40 .standing) (live .inForce 5)
    (after .orderTableRestart s).orders.retired = 0 ∧ ((after .orderTableRestart s).slot 3).gen = 1 := by decide

/-! ### Sensors (chapter 04) -/

/-- R72: −500 is valid at an air sensor, −501 is not. -/
theorem test_range_limits : (Role.zoneAir 0).inRange (-500) = true ∧ (Role.zoneAir 0).inRange (-501) = false := by decide

/-- With a return run of 3, the third valid arrival in a row returns a channel (R73). -/
theorem test_sense_third_arrival_returns :
    let s := withSensor State.reset 9 .outside .external
    let t := s.setSensor 9 { s.sensor 9 with count := 2 }
    ((after (.sense fleet 9 (BitVec.ofInt 16 (-230))) t).sensor 9).state = .valid ∧
      (after (.sense fleet 9 (BitVec.ofInt 16 (-230))) t).scan.tOut = -230 := by decide

theorem test_sense_of_an_internal_channel :
    answers (.sense fleet 9 200) (withSensor State.reset 9 .outside .internal) = .wrongState ∧
      answers (.sense driver 9 200) State.reset = .denied := by decide

/-- A pass converts in descending order (R68). -/
theorem test_scan_expiry_starts_a_pass :
    let s := withSensor (withSensor State.reset 2 .outside .internal) 30 .glass .internal
    (after .scanExpiry s).scan.pass = [30, 2] ∧ (after .scanExpiry s).scan.scanTimer = some 1000 := by decide

theorem test_last_conversion_starts_the_recorded_pass :
    let s := withSensor State.reset 2 .outside .internal
    let t := { s with scan := { s.scan with pass := [2], recorded := true } }
    (after (.conversionArrival 2 200) t).scan.pass = [2] ∧ ((after (.conversionArrival 2 200) t).sensor 2).count = 1 := by
  decide

theorem test_refresh_expiry_is_out_of_range :
    let s := withSensor State.reset 9 .outside .external
    let t := s.setSensor 9 { state := .valid, last := 50, count := 4, holdTimer := none, refreshTimer := some 700 }
    (after (.refreshExpiry 9) t).sensor 9 =
      { state := .suspect, last := 50, count := 0, holdTimer := some 30700, refreshTimer := some 10700 } := by decide

theorem test_hold_expiry_loses_the_channel :
    let s := withSensor State.reset 9 .outside .external
    let t := s.setSensor 9 { s.sensor 9 with holdTimer := some 700 }
    ((after (.sensorHoldExpiry 9) t).sensor 9).state = .lost ∧ (after (.sensorHoldExpiry 9) t).link.causes = 4 := by decide

theorem test_scanner_restart_posts :
    (after .sensorScannerRestart State.reset).posts.getLast? = some (.conditionPosting (.outside (-100) true)) := by decide

/-- R81: the Sensor Scanner takes its RESTART, and posts its values again, after the other blocks. -/
theorem test_restart_reaches_the_scanner_last : restartPostings.getLast? = some .sensorScannerRestart := by decide

/-- To and its stale flag reach the condition word (R80). -/
theorem test_outside_posting_is_stored :
    let w := (after (.conditionPosting (.outside (-230) false)) State.reset).orders.cond
    w.tOut = -230 ∧ w.stale = false := by decide

/-! ### Zones (chapter 05) -/

/-- R87's table, with the default curve. -/
theorem test_curve_base :
    let h := CabinMap.reset.curve
    curveBase h (-450) = 1000 ∧ curveBase h (-230) = 748 ∧ curveBase h (-100) = 540 ∧ curveBase h 150 = 140 ∧
      curveBase h 349 = 0 := by decide

/-- R88's example: held at 5.0 °C with −23.0 °C outside, F is 748 − 300. -/
theorem test_feedforward : feedforwardOf (.reset .a) CabinMap.reset.curve (-230) 50 = 448 := by decide

/-- R85's examples. -/
theorem test_proportional :
    proportionalOf (.reset .a) 26 = 208 ∧ proportionalOf (.reset .a) (-36) = -288 := by decide

/-- R93's, R95's and R97's examples. -/
theorem test_request_fresh_air_and_duty :
    requestOf 963 120 = 115 ∧ freshDemand 20 (-308) = 44 ∧ dutyOf 70 120 = 583 ∧ fanLevel 0 167 = 2 := by decide

/-- The first expiry after power-on runs open loop on F = 540 − 300 at −10.0 °C (R99, R103). -/
theorem test_first_interval :
    let g := (after (.intervalExpiry 0) State.reset).reg 0
    g.state = .noSensor ∧ g.u = 240 ∧ g.request = 0 ∧ g.fan = 2 ∧ g.timer = some 4000 := by decide

theorem test_zone_grant_makes_a_duty :
    let s := (withChan State.reset 8 (.convector 3) 60 0).setReg 3 { State.reset.reg 3 with pinst := 120, request := 115 }
    ((after (.zoneGrant 3 70) s).reg 3).duty = 583 ∧ ((after (.zoneGrant 3 70) s).reg 3).shortfall = true ∧
      (after (.zoneGrant 3 70) s).posts = [.dutyPosting 8 ⟨.zone 3, 583⟩] := by decide

theorem test_draft_posting : ((after (.draftPosting 3 176) State.reset).reg 3).d = 176 := by decide

theorem test_pinst_posting :
    let s := withChan (withChan State.reset 8 (.convector 3) 60 0) 17 (.convector 3) 40 0
    ((after (.pinstPosting 3) s).reg 3).pinst = 100 := by decide

theorem test_cap_lowered_clamps :
    let s := State.reset.setReg 3 { State.reset.reg 3 with u := 963, pinst := 120, request := 115 }
    ((after (.capLowered 3 40) s).reg 3).u = 400 ∧ ((after (.capLowered 3 40) s).reg 3).request = 48 ∧
      ((after (.capLowered 3 40) s).reg 3).highBound = true := by decide

/-- R3, R102: a minimum fresh air of 60 accepted since the last expiry is not used by a lowered cap. -/
theorem test_cap_lowered_keeps_the_minimum_read :
    let s := State.reset.putZoneRec 3 { State.reset.zoneRec 3 with minFresh := 60 }
    let s := s.setReg 3 { s.reg 3 with state := .regulating, u := -900, freshRead := 20 }
    ((after (.capLowered 3 40) s).reg 3).fresh = 52 := by decide

theorem test_inactive_at_once :
    let s := State.reset.setReg 3 { State.reset.reg 3 with i := 300, request := 9, timer := some 7000 }
    let g := (after (.zoneInactivePosting 3) s).reg 3
    g.i = 0 ∧ g.timer = some 7000 ∧ (after (.zoneInactivePosting 3) s).posts = [.lineRequestPosting (.zone 3) 0] := by decide

theorem test_flap_takes_the_greatest :
    (after (.freshAirPosting 3 44) State.reset).flaps.posB = 44 ∧
      (after (.freshAirPosting 3 10) State.reset).flaps.posB = 20 := by decide

theorem test_zone_restart :
    let s := State.reset.setReg 3 { State.reset.reg 3 with state := .regulating, i := 300, request := 9, d := 5 }
    let g := (after (.zoneRegulatorRestart 3) s).reg 3
    g.state = .starting ∧ g.i = 0 ∧ g.d = 5 := by decide

/-! ### Doorways (chapter 06) -/

/-- R114's example: Kd 4, Ts 21.0 °C, To −23.0 °C gives 176 open and 170 at 29 of 30 s. -/
theorem test_draft_term :
    let mon (x : DoorState) (n : Nat) : State := { State.reset with mon := { State.reset.mon with
      ts := Vector.replicate 8 (some 210), tOut := -230
      doors := Tab.put State.reset.mon.doors 1 { Door.reset with state := x, tailRemaining := n } } }
    (mon .opened 0).draftTerm 1 1 = 176 ∧ (mon .tail 29).draftTerm 1 1 = 170 ∧ (mon .tail 1).draftTerm 1 1 = 5 ∧
      (mon .opened 0).draftTerm 1 2 = 0 := by decide

theorem test_input_starts_the_debounce :
    ((after (.doorwayInputChange 2 true) State.reset).door 2).debounceTimer = some 200 := by decide

theorem test_debounce_opens :
    let s := after (.doorwayInputChange 2 true) State.reset
    let x := (after (.debounceExpiry 2) s).door 2
    x.state = .opened ∧ x.accepted = true ∧ x.holdTimer = some 90200 ∧ x.faultTimer = none := by decide

theorem test_hold_places_the_cap :
    let s := State.reset.setDoor 2 { Door.reset with state := .opened, raw := true, accepted := true, holdTimer := some 90200 }
    ((after (.holdExpiry 2) s).door 2).state = .held ∧ ((after (.holdExpiry 2) s).target 2).cap = 40 ∧
      .capLowered 2 40 ∈ (after (.holdExpiry 2) s).posts := by decide

theorem test_fault_raises :
    let s := State.reset.setDoor 2 { Door.reset with state := .opened, raw := true, accepted := true, faultTimer := some 5 }
    ((after (.faultExpiry 2) s).door 2).state = .fault ∧ (after (.faultExpiry 2) s).link.causes = 8 := by decide

/-- A tail that began at 99.3 s has 29 s left from 100.3 s, and counts on to 101.3 s (R109). -/
theorem test_tail_second :
    let s := State.reset.setDoor 2 { Door.reset with state := .tail, tailRemaining := 30, tailTimer := some 100300 }
    let x := (after (.tailSecond 2) s).door 2
    x.tailRemaining = 29 ∧ x.tailTimer = some 101300 := by decide

theorem test_tail_expiry_closes :
    let s := State.reset.setDoor 2 { Door.reset with state := .tail, tailRemaining := 1, tailTimer := some 129300 }
    ((after (.doorwayTailExpiry 2) s).door 2).state = .closed := by decide

theorem test_moving_starts_the_fault_timer :
    let s := State.reset.setDoor 2 { Door.reset with state := .opened, raw := true, accepted := true }
    ((after (.movingFlagPosting true) s).door 2).faultTimer = some 5000 := by decide

theorem test_target_and_to_postings :
    Tab.get (after (.zoneTargetPosting 1 (some 210)) State.reset).mon.ts 1 = some 210 ∧
      (after (.toPosting (-230)) State.reset).mon.tOut = -230 := by decide

/-- R117's example: a grant of 45 to a curtain rated 60 is 750 in 1000. -/
theorem test_curtain_grant :
    let s := withChan State.reset 9 (.curtain 2) 60 0
    ((after (.curtainGrant 2 45) s).door 2).duty = 750 ∧
      (after (.curtainGrant 2 45) s).posts = [.dutyPosting 9 ⟨.doorway 2, 750⟩] := by decide

/-- R116's example: at 29 of 30 s the curtain asks for 58. -/
theorem test_curtain_channel_posting :
    let s := (withChan State.reset 9 (.curtain 2) 60 0).setDoor 2 { Door.reset with state := .tail, tailRemaining := 29 }
    ((after (.curtainChannelPosting [2]) s).door 2).request = 58 := by decide

theorem test_doorway_restart :
    let s := State.reset.setDoor 2 { Door.reset with state := .opened, raw := true, accepted := true }
    let x := (after .doorwayMonitorRestart s).door 2
    x.state = .closed ∧ x.accepted = false ∧ x.debounceTimer = some 200 := by decide

/-! ### Windscreen (chapter 07) -/

/-- The rows of R124's table. -/
theorem test_dewpoint_margin :
    let m (tcab rh glass : Int) : Option Int × Option Int :=
      let c := (after (.screenSensorPosting (some tcab) 100 false (some glass) (some rh)) State.reset).screen
      (c.tdew, c.margin)
    m 190 760 175 = (some 142, some 33) ∧ m 190 860 165 = (some 162, some 3) ∧ m 200 903 170 = (some 181, some (-11)) ∧
      m 215 500 360 = (some 115, some 200) ∧ m 180 420 (-40) = (none, some 200) := by decide

theorem test_incomplete_evaluation_is_unknown :
    (after (.screenSensorPosting none 100 false (some 170) (some 903)) State.reset).posts =
      [.watchPosting .unknown (some 1)] := by decide

/-- R132's and R134's examples: a heater rated 35 asks for 17 at DEMIST and runs at 857 on a grant of 30. -/
theorem test_screen_heater :
    let s := withChan State.reset 32 .screen 35 0
    ((after (.screenLevelPosting 1) s).heater 0).request = 17 ∧ ((after (.auxGrant 0 30) s).heater 0).duty = 857 := by decide

theorem test_zone0_sets_the_blower :
    (after (.zone0Posting 4 44) State.reset).screen.blower = 4 ∧ (after (.zone0Posting 4 44) State.reset).screen.flap = 44 := by
  decide

/-- A mirror heats at screen level 0 while To is below 3.0 °C (R133). -/
theorem test_aux_channel_posting :
    ((after (.auxChannelPosting 1) (withChan State.reset 33 .mirror 20 0)).heater 1).request = 20 := by decide

theorem test_screen_restart_posts_the_watch :
    .watchPosting .unknown none ∈ (after .screenControllerRestart State.reset).posts := by decide

/-! ### Supply (chapter 08) -/

/-- R150's table: received, status, mode and state give the allowance in force. -/
theorem test_line_allowance_in_force :
    let l (received : Option Nat) (status : AllowanceStatus) (mode : Mode) (state : SupplyState) : Nat :=
      { State.reset with supply := { State.reset.supply with
        received := received, status := status, mode := mode, state := state } }.lineAllowance
    l (some 400) .current .run .line = 400 ∧ l (some 900) .current .run .line = 600 ∧
      l (some 400) .current .park .line = 200 ∧ l (some 400) .lapsed .run .line = 150 ∧
      l none .neverReceived .park .line = 150 ∧ l (some 400) .current .run .gap = 0 ∧
      l (some 120) .current .park .line = 120 := by decide

theorem test_allowance_limits :
    answers (.allowance fleet 2001) State.reset = .badField ∧ answers (.allowance fleet 601) State.reset = .adjusted ∧
      answers (.allowance fleet 200) State.reset = .done := by decide

/-- GAP_AHEAD in BATTERY is WRONG_STATE with the state (R144, R184). -/
theorem test_gap_ahead_in_battery :
    (after (.gapAhead fleet) State.reset).link.reply = { code := 0x32, status := .wrongState, payload := [0, 3] } := by decide

theorem test_mode_enters_run :
    (after (.mode depot 0) State.reset).supply.mode = .run ∧ answers (.mode depot 2) State.reset = .badField ∧
      answers (.mode driver 0) State.reset = .denied := by decide

theorem test_line_reading_starts_the_confirmation :
    (after (.lineReading 400 false) State.reset).supply.confirmTimer = some 520 ∧
      (after (.lineReading 399 false) State.reset).supply.confirmTimer = none := by decide

theorem test_line_loss_is_gap :
    let s := { State.reset with supply := { State.reset.supply with state := .line } }
    (after (.lineReading 901 false) s).supply.state = .gap ∧ (after (.lineReading 901 false) s).link.causes = 2 := by decide

theorem test_confirmation_returns_the_line :
    let s := { State.reset with supply := { State.reset.supply with confirmTimer := some 520 } }
    (after .confirmationExpiry s).supply.state = .line := by decide

theorem test_gap_hold_leads_to_battery :
    let s := { State.reset with supply := { State.reset.supply with state := .gap, gapHoldTimer := some 3000 } }
    (after .gapHoldExpiry s).supply.state = .battery := by decide

theorem test_pregap_leads_to_line :
    let s := { State.reset with supply := { State.reset.supply with state := .pregap, pregapTimer := some 9000 } }
    (after .pregapExpiry s).supply.state = .line := by decide

theorem test_allowance_lapses :
    let s := { State.reset with supply := { State.reset.supply with allowanceTimer := some 2000, status := .current, received := some 7 } }
    (after .allowanceExpiry s).supply.status = .lapsed ∧ (after .allowanceExpiry s).link.causes = 0x20 := by decide

theorem test_supply_restart_parks :
    let s := { State.reset with supply := { State.reset.supply with mode := .run } }
    (after .supplyMonitorRestart s).supply.mode = .park := by decide

/-! ### Allocation, banks and channels (chapter 09) -/

/-- The requests of the worked allocation, with as much heat available, in LINE and RUN. -/
def worked : State :=
  let asks : Vector Nat 8 := #v[30, 80, 90, 115, 70, 60, 50, 40]
  { State.reset with alloc := { State.reset.alloc with
    zones := Tab.build fun z => { request := Tab.get asks z, avail := Tab.get asks z, grant := 0 }
    curtains := Tab.put State.reset.alloc.curtains 2 { request := 60, avail := 60, grant := 0 }
    supply := .line, mode := .run } }

/-- The two tables of the worked allocation: 400, then 100. -/
theorem test_worked_allocation :
    (after (.allocatorAllowancePosting 400) worked).alloc.zones.toList.map (·.grant) = [30, 49, 55, 70, 42, 36, 30, 24] ∧
      (after (.allocatorAllowancePosting 100) worked).alloc.zones.toList.map (·.grant) = [30, 1, 1, 2, 1, 1, 0, 0] ∧
      (Tab.get (after (.allocatorAllowancePosting 100) worked).alloc.curtains 2).grant = 60 := by decide

/-- The pool is held in GAP, and BATTERY at allowance 0 takes every grant (R161). -/
theorem test_supply_posting_holds_and_drops :
    let s := after (.allocatorAllowancePosting 400) worked
    (Tab.get (after (.allocatorSupplyPosting .gap 0) s).alloc.zones 0).grant = 30 ∧
      (Tab.get (after (.allocatorSupplyPosting .battery 0) s).alloc.zones 0).grant = 0 := by decide

theorem test_mode_posting_reallocates :
    (Tab.get (after (.allocatorModePosting .park 30) worked).alloc.zones 0).grant = 30 := by decide

theorem test_line_request_reallocates :
    let s := { worked with alloc := { worked.alloc with lineAllowance := 400 } }
    (Tab.get (after (.lineRequestPosting (.zone 0) 20) s).alloc.zones 0).grant = 20 := by decide

/-- No member is granted more than its available heat (R158). -/
theorem test_available_heat_limits :
    let s := { worked with alloc := { worked.alloc with lineAllowance := 400 } }
    (Tab.get (after (.availableHeatPosting (.line (.zone 0), 10) []) s).alloc.zones 0).grant = 10 := by decide

theorem test_aux_request_is_shared :
    let s := withChan (withChan State.reset 32 .screen 35 0) 33 .mirror 20 0
    let t := { s with alloc := { s.alloc with
      aux := #v[{ request := 17, avail := 35, grant := 0 }, { request := 0, avail := 20, grant := 0 },
        { request := 0, avail := 0, grant := 0 }, { request := 0, avail := 0, grant := 0 }] } }
    (after (.auxRequestPosting 1 20) t).alloc.aux.toList.map (·.grant) = [17, 13, 0, 0] := by decide

theorem test_aux_allowance_of_zero :
    let s := { State.reset with alloc := { State.reset.alloc with
      aux := Tab.put State.reset.alloc.aux 0 { request := 17, avail := 35, grant := 17 } } }
    (Tab.get (after (.auxAllowancePosting 0) s).alloc.aux 0).grant = 0 := by decide

theorem test_allocator_restart_keeps_heat :
    Tab.get (after .allocatorRestart worked).alloc.zones 3 = { request := 0, avail := 115, grant := 0 } := by decide

/-- A duty above 0 in LINE starts the precharge of an OPEN bank (R165). -/
theorem test_duty_posting_starts_a_precharge :
    let s := (withChan State.reset 17 (.convector 3) 60 0).setBank 2 (aBank .opened 0)
    let x := (after (.dutyPosting 17 ⟨.zone 3, 583⟩) s).bank 2
    x.state = .precharge ∧ x.prechargeTimer = some 800 := by decide

theorem test_channel_reconfigured_asks_for_the_duty :
    let s := (withChan State.reset 17 (.convector 3) 60 0).setReg 3 { State.reset.reg 3 with duty := 583 }
    (after (.channelReconfiguredPosting 17) s).posts = [.dutyPosting 17 ⟨.zone 3, 583⟩] := by decide

/-- A duty that a former consumer posted is not stored: the channel holds 0 until its new consumer posts (R176). -/
theorem test_duty_of_a_former_consumer :
    let s := withChan State.reset 17 (.curtain 2) 60 0
    ((after (.dutyPosting 17 ⟨.zone 3, 583⟩) s).chan 17).duty = 0 ∧
      ((after (.dutyPosting 17 ⟨.doorway 2, 583⟩) s).chan 17).duty = 583 := by decide

theorem test_bank_supply_posting :
    ((after (.bankSupplyPosting 2 .gap) (State.reset.setBank 2 (aBank .closed 3))).bank 2).state = .hold ∧
      ((after (.bankSupplyPosting 2 .battery) (State.reset.setBank 2 (aBank .closed 3))).bank 2).openingTimer = some 300 := by
  decide

/-- R175's figures: masked above 80.0 °C, released below 70.0 °C, kept between. -/
theorem test_surface_posting_overheats :
    let s := State.reset.setChan 17 { duty := 0, overheated := true, surface := .reading 900 }
    ((after (.surfacePosting 17 (.reading 801)) State.reset).chan 17).overheated = true ∧
      ((after (.surfacePosting 17 (.reading 700)) s).chan 17).overheated = true ∧
      ((after (.surfacePosting 17 (.reading 699)) s).chan 17).overheated = false ∧
      ((after (.surfacePosting 17 (.reading 700)) State.reset).chan 17).overheated = false := by decide

theorem test_overcurrent_opens_towards_fault :
    let x := (after (.overcurrent 2 true) (State.reset.setBank 2 (aBank .closed 3))).bank 2
    x.state = .opening ∧ x.outcome = .fault := by decide

/-- The link test: 90 % of a line reading of 700 V is 630 V (R166). -/
theorem test_precharge_link_test :
    let s := { State.reset.setBank 2 { aBank .precharge 0 with prechargeTimer := some 800 } with
      supply := { State.reset.supply with lastReading := 700 } }
    ((after (.prechargeCompletion 2 630) s).bank 2).state = .closed ∧
      ((after (.prechargeCompletion 2 629) s).bank 2).outcome = .fault := by decide

theorem test_ramp_expiry :
    let s := State.reset.setBank 2 { aBank .closed 7 with rampTimer := some 250 }
    ((after (.rampExpiry 2) s).bank 2).ramp = 8 ∧ ((after (.rampExpiry 2) s).bank 2).rampTimer = none := by decide

theorem test_idle_expiry_opens :
    let s := State.reset.setBank 2 { aBank .closed 8 with idleTimer := some 60000 }
    ((after (.idleExpiry 2) s).bank 2).state = .opening := by decide

/-- The third fault locks, and raises BANK_FAULT (R170). -/
theorem test_third_fault_locks :
    let s := State.reset.setBank 2 { aBank .opening 0 with openingTimer := some 300, outcome := .fault, faults := 2 }
    ((after (.openingCompletion 2) s).bank 2).state = .locked ∧ (after (.openingCompletion 2) s).link.causes = 1 := by decide

theorem test_bank_commands :
    let fault := State.reset.setBank 2 { aBank .fault 0 with faults := 1 }
    let locked := State.reset.setBank 2 { aBank .locked 0 with faults := 3 }
    ((after (.bankLock service 2) fault).bank 2).state = .locked ∧ ((after (.bankClear service 2) fault).bank 2).faults = 1 ∧
      ((after (.bankUnlock service 2) locked).bank 2).faults = 0 ∧ answers (.bankClear service 2) locked = .wrongState ∧
      answers (.bankLock fleet 2) fault = .denied := by decide

theorem test_bank_controller_restart :
    ((after .bankControllerRestart (State.reset.setBank 2 { aBank .fault 0 with faults := 2 })).bank 2).state = .opened := by
  decide

/-- The duties waiting behind the RESTART of the banks are taken before it, so that no bank finds an old duty (R173). -/
theorem test_duties_go_before_the_bank_restart :
    let s : State := { State.reset with posts :=
      [.bankControllerRestart, .toPosting 0, .dutyPosting 16 ⟨.zone 3, 0⟩, .dutyPosting 17 ⟨.zone 3, 0⟩] }
    step s = exec (.dutyPosting 16 ⟨.zone 3, 0⟩) { s with posts :=
      [.bankControllerRestart, .toPosting 0, .dutyPosting 17 ⟨.zone 3, 0⟩] } := rfl

/-- A bank that is locked posts once to each block, with every change it made (R178). -/
theorem test_availability_is_posted_once_to_each_block :
    let s := withChan (withChan (withChan State.reset 16 (.convector 3) 60 0) 17 (.convector 4) 40 0) 18 (.curtain 2) 30 0
    (after (.bankLock service 2) s).posts =
      [.pinstPosting 3, .pinstPosting 4, .curtainChannelPosting [2],
        .availableHeatPosting (.line (.zone 3), 0) [(.line (.zone 4), 0), (.line (.curtain 2), 0)]] := by decide

/-- Two LIVE channels, rated 60 and 40, both at duty 1000, with a line allowance in force of n. -/
def liveTwo (n : Nat) : State :=
  let s := withChan (withChan State.reset 16 (.convector 3) 60 0) 17 (.convector 3) 40 0
  let s := (s.setChan 16 { duty := 1000, overheated := false, surface := .noSensor }).setChan 17
    { duty := 1000, overheated := false, surface := .noSensor }
  { s.setBank 2 (aBank .closed 8) with supply := { s.supply with
    state := .line, mode := .run, status := .current, received := some n, allowanceTimer := some 2000 } }

/-- R177's example: at 100 both are driven at 1000, at 50 at 500. -/
theorem test_draw_limit :
    (liveTwo 100).drivenDuty 16 = 1000 ∧ (liveTwo 50).drivenDuty 16 = 500 ∧ (liveTwo 50).drivenDuty 17 = 500 := by decide

/-! ### Records (chapter 01) -/

/-- The defaults of R2's table, as carried. -/
def zoneWords : ZoneWords :=
  { sect := 1, setpoint := 180, bandMin := 120, bandMax := 280, kp := 80, ki := 30, kf := 20, kd := 4, ko := 20
    minFresh := 20, interval := 2 }

def doorWords : DoorWords :=
  { zones := 4, debounce := 200, tail := 30, hold := 90, cap := 40, noHold := 0, faultDelay := 5 }

def supplyWords : SupplyWords :=
  { low := 400, high := 900, confirm := 500, gapHold := 3, pregap := 10, lineMax := 600, parkLimit := 200, timeout := 2
    fallback := 150, aux := 30 }

theorem test_configure_zone :
    answers (.configureZone fleet (.record 3 zoneWords)) State.reset = .done ∧
      answers (.configureZone fleet (.record 3 { zoneWords with interval := 11 })) State.reset = .adjusted ∧
      answers (.configureZone fleet (.record 0 zoneWords)) State.reset = .badField ∧
      answers (.configureZone fleet (.record 3 { zoneWords with bandMin := 200, bandMax := 160 })) State.reset = .badField := by
  decide

theorem test_configure_doorway_held_is_busy :
    let s := State.reset.setDoor 2 { Door.reset with state := .held }
    answers (.configureDoorway fleet 2 { doorWords with zones := 6 }) s = .busy ∧
      answers (.configureDoorway fleet 2 doorWords) State.reset = .done := by decide

/-- A second CURTAIN of a doorway and a convector on an AUX channel are BAD_FIELD; a working bank is BUSY (R8, R9). -/
theorem test_configure_channel :
    let w : ChanWords := { type := 0x0202, rated := 60, group := 0, limit := 800, enabled := 1 }
    answers (.configureChannel fleet 9 w) State.reset = .done ∧
      answers (.configureChannel fleet 10 w) (withChan State.reset 9 (.curtain 2) 60 0) = .badField ∧
      answers (.configureChannel fleet 33 { w with type := 0x0103 }) State.reset = .badField ∧
      answers (.configureChannel fleet 9 w) (State.reset.setBank 1 (aBank .closed 0)) = .busy := by decide

theorem test_configure_sensor :
    answers (.configureSensor fleet 31 { role := 0x0400, origin := 1, hold := 30, run := 3 }) State.reset = .done ∧
      ((after (.configureSensor fleet 31 { role := 0x0400, origin := 1, hold := 30, run := 3 }) State.reset).sensor 31).refreshTimer =
        some 10000 := by decide

theorem test_configure_bank :
    answers (.configureBank fleet 3 { precharge := 99, opening := 300, idle := 60, ramp := 250 }) State.reset = .adjusted ∧
      answers (.configureBank fleet 4 { precharge := 800, opening := 300, idle := 60, ramp := 250 }) State.reset = .badField := by
  decide

/-- The fallback is clamped to the line maximum (R14). -/
theorem test_configure_supply :
    (after (.configureSupply fleet 0 { supplyWords with lineMax := 100 }) State.reset).cfg.supply.fallback = 100 ∧
      answers (.configureSupply fleet 1 supplyWords) State.reset = .badField := by decide

theorem test_configure_screen_dwell :
    let t := after (.configureScreen fleet 0 { risk := 40, fog := 10, hyst := 10, ice := 20, dwell := 60 }) State.reset
    ((t.slot 62).entry.map (·.ord.count)) = some 60 := by decide

/-- The base floor amends slot 63, changed or not (R16). -/
theorem test_configure_limits_amends_slot_63 :
    let w : LimitsWords := { mask := 0xFF, bandMin := 160, bandMax := 260, frost := 0, warm := 220, floor := 80, scan := 500 }
    ((after (.configureLimits fleet 0 w) State.reset).target 0).floor = some 80 ∧
      answers (.configureLimits fleet 0 { w with mask := 0x100 }) State.reset = .badField := by decide

/-! ### Power-on -/

theorem test_power_on_keeps_the_pins :
    let s := { State.reset with now := 77, pins := { State.reset.pins with batLow := true }, posts := [.scanExpiry] }
    (after .powerOn s).now = 0 ∧ (after .powerOn s).supply.lowBat = true ∧ (after .powerOn s).posts = [] ∧
      (after .powerOn s).alloc.auxAllowance = 0 := by decide

/-! ### Witnesses: states and operands that meet the hypotheses of the statements -/

theorem next_of (c : Instr) (s : State) (h : ∃ t, exec c s = .next t := by exact ⟨_, rfl⟩) :
    exec c s = .next (after c s) := by
  obtain ⟨t, ht⟩ := h
  simp [after, ht]

theorem witness_StepTakesFront : ∃ (c : Instr) (rest : List Instr) (s : State), s.pending = c :: rest :=
  ⟨.scanExpiry, [.timeBaseBoundary], { State.reset with pending := [.scanExpiry, .timeBaseBoundary] }, rfl⟩

theorem witness_StepTakesPostingThenOwnEvent :
    let posted : State := { State.reset with posts := [.orderTableRestart] }
    let passing : State := { State.reset with scan := { State.reset.scan with pass := [3, 2] } }
    let d : Instr := .dutyPosting 31 ⟨.zone 7, 0⟩
    let behind : State := { State.reset with posts := .bankControllerRestart :: ([.toPosting 0] ++ d :: [d]) }
    let alone : State := { State.reset with posts := [.bankControllerRestart, .toPosting 0] }
    (posted.pending = [] ∧ posted.posts = [.orderTableRestart] ∧ Instr.orderTableRestart ≠ .bankControllerRestart) ∧
      (behind.pending = [] ∧ behind.posts = .bankControllerRestart :: ([.toPosting 0] ++ d :: [d]) ∧
        ∀ c x, Instr.dutyPosting c x ∉ [Instr.toPosting 0]) ∧
      (alone.pending = [] ∧ alone.posts = .bankControllerRestart :: [.toPosting 0]) ∧
      (passing.pending = [] ∧ passing.posts = [] ∧ passing.scan.pass = 3 :: [2]) ∧
      State.reset.pending = [] ∧ State.reset.posts = [] ∧ State.reset.scan.pass = [] :=
  ⟨by decide, ⟨rfl, rfl, by simp⟩, ⟨rfl, rfl⟩, by decide, by decide⟩

theorem witness_CommandsCompleteAndKeepToTheirParts :
    exec .scanExpiry State.reset = .next (after .scanExpiry State.reset) ∧ Instr.scanExpiry ≠ .powerOn ∧
      Part.orders ∉ partsOf .scanExpiry := ⟨rfl, by decide, by decide⟩

theorem witness_FramesDecodeToTheirCommand :
    (WellFormed (.mask { origin := .fleet, pad := [1] } 255) = true ∧
      frameBytes (.mask { origin := .fleet, pad := [1] } 255) = some [0x61, 2, 1, 255, 1]) ∧
      WellFormed (.malformedFrame [0x60]) = true := by decide

theorem witness_MalformedFramesAreRefused : [(0x60 : Byte)] ≠ [] ∧ frameGood [0x60] = false ∧ frameGood [0x60, 0, 0] = true := by
  decide

theorem witness_TransactionsShiftTheReply :
    (frameBytes (.cause driver) = some [0x60, 1, 0] ∧ [(0x60 : Byte), 1, 0] ≠ [] ∧
      exec (.cause driver) State.reset = .next (after (.cause driver) State.reset)) ∧
      (framePayload (.cause driver) = some (0x60, driver, []) ∧ (0x60 : Byte) ≠ 0x00) ∧
      ({ code := 0, status := .done, payload := List.replicate 96 0 } : Reply).payload.length ≤ 96 :=
  ⟨⟨by decide, by decide, rfl⟩, ⟨rfl, by decide⟩, by decide⟩

theorem witness_OriginsNotListedAreDenied :
    (framePayload (.curvePointer driver 0) = some (0x41, driver, [0]) ∧ originTaken 0x41 .driver = false) ∧
      framePayload (.bankLock fleet 0) = some (0x50, fleet, [0]) ∧ originTaken 0x50 .fleet = false := by decide

theorem witness_CauseAndMaskFollowTheirRules :
    let s (causes : Byte) : State := { State.reset with link := { State.reset.link with causes := causes } }
    let lowest (s : State) (k : Fin 8) : Bool := s.link.causes.getLsbD k.val &&
      decide (∀ j : Fin 8, j < k → s.link.causes.getLsbD j.val = false)
    (s 0).link.causes = 0 ∧ lowest (s 0x81) 0 = true ∧ lowest (s 0x80) 7 = true ∧ fleet.origin = .fleet ∧
      ¬(driver.origin = .fleet ∨ driver.origin = .service) := by decide

theorem witness_VehicleAndRestartArePosted :
    (fleet.origin = .fleet ∨ fleet.origin = .service) ∧ 16 ≤ (16#8).toNat ∧ ¬16 ≤ (15#8).toNat := by decide

theorem witness_CurveIsReachedByItsPointer :
    let s (n : Nat) : State := { State.reset with link := { State.reset.link with curvePtr := n } }
    ((15#8).toNat ≤ 15 ∧ ¬(16#8).toNat ≤ 15) ∧ ((s 15).link.curvePtr < 16 ∧ ¬(s 16).link.curvePtr < 16) ∧
      (after (.curvePointer fleet 15) State.reset).link.curvePtr ≠ State.reset.link.curvePtr := by decide

theorem witness_ReadoutsChangeNothing :
    ((7#8).toNat = (7 : ZoneId).val ∧ 8 ≤ (8#8).toNat) ∧ ((5#8).toNat = (5 : DoorId).val ∧ 6 ≤ (6#8).toNat) ∧
      ((3#8).toNat = (3 : BankId).val ∧ 4 ≤ (4#8).toNat) ∧ ((35#8).toNat = (35 : ChanId).val ∧ 36 ≤ (36#8).toNat) ∧
      (31#8).toNat = (31 : SensorId).val ∧ 32 ≤ (32#8).toNat := by decide

/-- The record of HOLD words, as a FLEET order. -/
def holdRec (zones : ZoneSet) (value : Int) : OrderRec :=
  { anOrder .fleet .hold zones value .standing with count := 1 }

theorem witness_OrderRecordsAreCarriedByR192 :
    orderOf .fleet (holdWords 1 200) = some (holdRec 1 200) ∧ orderOf .fleet { holdWords 1 200 with kind := 6 } = none ∧
      (let r : OrderRec := { holdRec 1 (-32768) with count := 65536, onTime := 65535 };
       let l : OrderLive := { live .inForce 65536 with period := 65536, offTime := 65535 };
       -32768 ≤ r.value ∧ r.value ≤ 32767 ∧ 1 ≤ r.count ∧ r.count ≤ 65536 ∧ r.onTime ≤ 65535 ∧ l.remaining ≤ 65536 ∧
         l.period ≤ 65536 ∧ l.offTime ≤ 65535) := by decide

/-- The state with an order in each slot below n. -/
def filled (n : Nat) : State :=
  let used : Slot := { gen := 0, entry := some { ord := holdRec 1 200, live := live .inForce 1, latch := none } }
  let slots := Tab.build fun k : SlotId => if k.val < n then used else State.reset.slot k
  { State.reset with orders := { State.reset.orders with slots := slots } }

theorem witness_PlaceStoresTheOrder :
    let l := State.reset.cfg.limits
    orderOf .fleet { holdWords 1 200 with kind := 6 } = none ∧ orderOf .fleet (holdWords 1 200) = some (holdRec 1 200) ∧
      ¬placeRight l .fleet { holdRec 1 0 with kind := .screen } ∧
      (placeRight l .fleet (holdRec 0 200) ∧ ¬wellBuilt (holdRec 0 200)) ∧
      (placeRight l .fleet (holdRec 1 200) ∧ wellBuilt (holdRec 1 200)) ∧
      (∀ k : SlotId, k.val < 56 → ((filled 56).slot k).entry ≠ none) ∧
      ((55 : SlotId).val < 56 ∧ ((filled 55).slot 55).entry = none ∧
        ∀ j : SlotId, j < 55 → ((filled 55).slot j).entry ≠ none) :=
  ⟨by decide, by decide, by decide, by decide, by decide, by decide, by decide, by decide, by decide⟩

theorem witness_AmendReplacesTheFields :
    (63 < (64#8).toNat ∧ 15 < (16#8).toNat ∧ (63#8).toNat = (63 : SlotId).val ∧ (15#8).toNat ≤ 15) ∧
      ((56 ≤ (62 : SlotId).val ∧ (62 : SlotId).val ≤ 62) ∧ fleet.origin ≠ .service ∧ (55 : SlotId).val < 56 ∧
        service.origin = .service) ∧
      (State.reset.slot 0).entry = none ∧
      (let s := withOrder State.reset 3 (holdRec 1 200) (live .inForce 1);
       let e : Entry := { ord := holdRec 1 200, live := live .inForce 1, latch := none };
       (s.slot 3).entry = some e ∧ (s.slot 3).gen.toNat = 0 ∧ e.ord.source ∉ amendable .driver ∧
         e.ord.source ∈ amendable .fleet ∧ orderOf .fleet (holdWords 1 210) = some (holdRec 1 210) ∧
         pulseWellBuilt (holdRec 1 210) ∧ orderOf .fleet { holdWords 1 200 with kind := 6 } = none) := by decide

theorem witness_RetireLatchReadAndList :
    (63 < (64#8).toNat ∧ 15 < (16#8).toNat ∧ 56 ≤ (56 : SlotId).val ∧ (55 : SlotId).val < 56) ∧
      (let s := withOrder State.reset 55 (holdRec 1 200) (live .inForce 1);
       let e : Entry := { ord := holdRec 1 200, live := live .inForce 1, latch := none };
       let t := s.setSlot 55 { gen := 0, entry := some { e with latch := some (e.ord, e.live) } };
       (s.slot 55).entry = some e ∧ (s.slot 55).gen = 0 ∧ (s.slot 54).entry = none ∧ e.latch = none ∧
         (t.slot 55).entry = some { e with latch := some (e.ord, e.live) }) := by decide

theorem witness_ConditionsMoveTheLifetimes :
    let w := CondWord.reset
    let o := holdRec 1 200
    let l := live .inForce 1
    let never (m : Lifetime) : OrderRec := { o with mode := m, select := 1 }
    conditionHolds w o = l.holds ∧ (conditionHolds w o = true ∧ { l with holds := false }.holds = false ∧ o.mode ≠ .pulse) ∧
      (conditionHolds w { o with mode := .pulse } = true ∧ { o with mode := .pulse }.mode = .pulse) ∧
      (conditionHolds w (never .standing) = false ∧ l.holds = true ∧ (never .standing).mode ≠ .tail) ∧
      (conditionHolds w (never .tail) = false ∧ (never .tail).mode = .tail ∧ l.state = .inForce ∧
        (live .tailing 1).state ≠ .inForce) := by decide

theorem witness_PostingsReevaluateTheConditions :
    (Watch.fog = .fog ∨ Watch.fog = .ice) ∧ SlotsSound State.reset ∧ orderSound State.reset screenSlot = true ∧
      OrdersInRange State.reset ∧
      exec (.watchPosting .fog (some 2)) State.reset = .next (after (.watchPosting .fog (some 2)) State.reset) :=
  ⟨by decide, by decide, by decide, by decide, rfl⟩

theorem witness_BoundaryCountsEveryLifetime :
    let s := withOrder State.reset 3 (anOrder .fleet .cap 1 40 .countdown) (live .inForce 1)
    (expiresNow 3 { ord := anOrder .fleet .cap 1 40 .countdown, live := live .inForce 1, latch := none } = true ∧
      (s.slot 3).entry.isSome = true) ∧ State.reset.ordersWhere expiresNow = [] := by decide

theorem witness_LifetimeExpiries :
    let e (m : Lifetime) (x : OrderState) : Entry := { ord := anOrder .fleet .cap 1 40 m, live := live x 1, latch := none }
    let s (m : Lifetime) (x : OrderState) : State := withOrder State.reset 3 (e m x).ord (e m x).live
    (State.reset.slot 3).entry = none ∧ ((s .countdown .inForce).slot 3).entry = some (e .countdown .inForce) ∧
      ((s .tail .tailing).slot 3).entry = some (e .tail .tailing) ∧
      ((s .pulse .resting).slot 3).entry = some (e .pulse .resting) := by decide

theorem witness_ModeAndRestartReachTheOrderTable :
    let s := withOrder State.reset 55 (holdRec 1 200) (live .inForce 1)
    let e : Entry := { ord := holdRec 1 200, live := live .inForce 1, latch := none }
    ((55 : SlotId).val < 56 ∧ (s.slot 55).entry = some e ∧ e.ord.persist = false) ∧
      State.reset.ordersWhere clearedByPark = [] := by decide

/-- What holds of every order of a kind in the table holds of those that take part. -/
theorem of_all {slots : Vector Slot 64} {kind : Kind} {z : ZoneId} {p : OrderRec → Bool}
    (h : ∀ k, ((Tab.get slots k).entry.all fun e => decide (e.ord.kind ≠ kind) || p e.ord) = true) :
    ∀ k o, takesPartIn slots kind z k o → p o = true := by
  rintro k o ⟨e, he, rfl, -, hk, -⟩
  simpa [he, hk] using h k

theorem witness_HoldFanFloorCapAndLevelAreResolved :
    let hold := (withOrder State.reset 3 (holdRec 1 200) (live .inForce 1)).orders.slots
    let vent := (withOrder State.reset 3 (anOrder .fleet .vent 1 7 .standing) (live .inForce 1)).orders.slots
    let cap := (withOrder State.reset 3 (anOrder .fleet .cap 1 40 .standing) (live .inForce 1)).orders.slots
    let base := State.reset.orders.slots
    wins hold .hold 0 3 (holdRec 1 200) ∧ wins vent .vent 0 3 (anOrder .fleet .vent 1 7 .standing) ∧
      (∀ k o, ¬takesPartIn base .hold 0 k o) ∧ (∀ k o, ¬takesPartIn base .vent 0 k o) ∧
      (∀ k o, ¬takesPartIn base .cap 0 k o) ∧
      (∃ o, takesPartIn base .floor 0 63 o ∧ 0 < o.value ∧ ∀ k' o', takesPartIn base .floor 0 k' o' → o'.value ≤ o.value) ∧
      (∃ o, takesPartIn cap .cap 0 3 o ∧ 0 ≤ o.value ∧ o.value ≤ 100 ∧
        ∀ k' o', takesPartIn cap .cap 0 k' o' → o.value ≤ o'.value) ∧
      (∃ o, takesPartInScreen base 62 o ∧ 0 ≤ o.value) := by
  refine ⟨⟨⟨_, rfl, rfl, by decide, by decide, by decide⟩, ?_⟩, ⟨⟨_, rfl, rfl, by decide, by decide, by decide⟩, ?_⟩, ?_, ?_,
    ?_, ⟨_, ⟨_, rfl, rfl, by decide, by decide, by decide⟩, by decide, ?_⟩,
    ⟨_, ⟨_, rfl, rfl, by decide, by decide, by decide⟩, by decide, by decide, ?_⟩,
    ⟨_, ⟨_, rfl, rfl, by decide, by decide⟩, by decide⟩⟩
  · rintro k' o' ⟨e, he, rfl, -, hk, -⟩
    revert k' e
    have h : ∀ k' : SlotId, k' = 3 ∨ ((Tab.get (withOrder State.reset 3 (holdRec 1 200) (live .inForce 1)).orders.slots
        k').entry.all fun e => decide (e.ord.kind ≠ .hold)) = true := by decide
    intro k' e he hk
    rcases h k' with rfl | h
    · cases he; decide
    · rw [he] at h; simp [hk] at h
  · rintro k' o' ⟨e, he, rfl, -, hk, -⟩
    have h : ∀ k' : SlotId, k' = 3 ∨ ((Tab.get (withOrder State.reset 3 (anOrder .fleet .vent 1 7 .standing)
        (live .inForce 1)).orders.slots k').entry.all fun e => decide (e.ord.kind ≠ .vent)) = true := by decide
    rcases h k' with rfl | h
    · cases he; decide
    · rw [he] at h; simp [hk] at h
  · exact fun k o h => absurd (of_all (p := fun _ => false) (by decide) k o h) (by simp)
  · exact fun k o h => absurd (of_all (p := fun _ => false) (by decide) k o h) (by simp)
  · exact fun k o h => absurd (of_all (p := fun _ => false) (by decide) k o h) (by simp)
  · exact fun k o h => by simpa using of_all (p := fun o => decide (o.value ≤ 50)) (by decide) k o h
  · exact fun k o h => by simpa [anOrder] using of_all (p := fun o => decide (40 ≤ o.value)) (by decide) k o h

theorem witness_OffsetIsTheClampedSum :
    let l := inForceOrders State.reset.orders.slots
    (∀ k o, ¬takesPartIn State.reset.orders.slots .offset 0 k o) ∧ (resolvedTarget l .run (.reset .a) 0).hold = .setpoint 180 ∧
      (resolvedTarget l .park (.reset .a) 0).hold = .off :=
  ⟨fun k o h => absurd (of_all (p := fun _ => false) (by decide) k o h) (by simp), by decide, by decide⟩

theorem witness_EffectiveSetpointByR59 :
    let base := State.reset.orders.slots
    let bare := base.set 63 { gen := 0, entry := none }
    (ZoneRec.reset .a).inRange 0 ∧ (∀ k o, takesPartIn base .floor 0 k o → o.value ≤ 150) ∧
      ((resolvedTarget (inForceOrders bare) .park (.reset .a) 0).hold = .off ∧
        (resolvedTarget (inForceOrders bare) .park (.reset .a) 0).floor = none) ∧
      ((resolvedTarget (inForceOrders base) .park (.reset .a) 0).hold = .off ∧
        (resolvedTarget (inForceOrders base) .park (.reset .a) 0).floor = some 50) ∧
      (resolvedTarget (inForceOrders base) .run (.reset .a) 0).hold = .setpoint 180 ∧
      (resolvedTarget (inForceOrders bare) .run (.reset .a) 0).floor = none :=
  ⟨by decide, fun k o h => by simpa using of_all (p := fun o => decide (o.value ≤ 150)) (by decide) k o h, by decide,
    by decide, by decide, by decide⟩

theorem witness_ResolutionRecomputesTargetsAndEffects :
    let e : Entry := { ord := anOrder .fleet .cap 1 0 .standing, live := live .inForce 1, latch := none }
    let o : Entry := { ord := anOrder .fleet .offset 1 (-30) .standing, live := live .resting 1, latch := none }
    (((withOrder State.reset 3 e.ord e.live).slot 3).entry = some e ∧ 0 ≤ e.ord.value) ∧
      ((withOrder State.reset 3 o.ord o.live).slot 3).entry = some o ∧ o.ord.kind ≠ .cap ∧ o.ord.kind ≠ .screen ∧
      (anOrder .fleet .screen 0 2 .standing).kind = .screen := by decide

theorem witness_ArrivalsAreJudgedAndSensed :
    let s := withSensor State.reset 31 .outside .external
    let at' (state : SensorState) (count : Nat) : State := s.setSensor 31 { s.sensor 31 with state := state, count := count }
    (s.sensorRec 31).role = .outside ∧ (-500 ≤ (850 : Int) ∧ (850 : Int) ≤ 850) ∧ ¬(851 : Int) ≤ 850 ∧
      ((at' .valid 8).sensor 31).state = .valid ∧
      (((at' .suspect 1).sensor 31).state ≠ .valid ∧ min 8 (((at' .suspect 1).sensor 31).count + 1) < (s.sensorRec 31).run) ∧
      (((at' .lost 2).sensor 31).state ≠ .valid ∧ (s.sensorRec 31).run ≤ min 8 (((at' .lost 2).sensor 31).count + 1)) ∧
      driver.origin = .driver ∧ depot.origin ≠ .driver ∧ 31 < (32#8).toNat ∧ (31#8).toNat = (31 : SensorId).val := by decide

theorem witness_SensorEventsRecomputeAndPost :
    let s := (withSensor State.reset 2 (.zoneAir 0) .internal).setSensor 2
      { state := .valid, last := 200, count := 3, holdTimer := none, refreshTimer := none }
    let f := withSensor State.reset 2 (.surface 9) .internal
    let o := (withSensor State.reset 2 .outside .internal)
    let g := withSensor (withSensor State.reset 2 .glass .internal) 31 .cabHumidity .internal
    let lost := g.setSensor 2 { g.sensor 2 with state := .lost }
    (∀ k, (State.reset.sensorRec k).role ≠ .zoneAir 0) ∧ ((s.sensorRec 2).role = .zoneAir 0 ∧ (s.sensor 2).state = .valid) ∧
      (∀ k, (State.reset.sensorRec k).role ≠ .surface 9) ∧
      ((f.sensorRec 2).role = .surface 9 ∧ ∀ j, (f.sensorRec j).role = .surface 9 → j = 2) ∧
      (∀ j, ¬((State.reset.sensorRec j).role = .outside ∧ (State.reset.sensor j).state ≠ .lost)) ∧
      ((o.sensorRec 2).role = .outside ∧ (o.sensor 2).state ≠ .lost) ∧
      (∀ k, (lost.sensorRec k).role = .glass → (lost.sensor k).state = .lost) ∧
      ((g.sensorRec 2).role = .glass ∧ (g.sensor 2).state ≠ .lost ∧ ∀ j, (g.sensorRec j).role = .glass → j = 2) ∧
      (∀ k, (State.reset.sensorRec k).role = .cabHumidity → (State.reset.sensor k).state = .lost) ∧
      (g.sensorRec 31).role = .cabHumidity ∧ (g.sensor 31).state ≠ .lost ∧
      ∀ j, (g.sensorRec j).role = .cabHumidity → j = 31 := by decide

theorem witness_PassesAndSensorTimersRun :
    let passing : State := { State.reset with scan := { State.reset.scan with pass := [3, 2], scanTimer := none } }
    let timed := State.reset.setSensor 31 { State.reset.sensor 31 with holdTimer := some 30000, refreshTimer := some 10000 }
    passing.scan.scanTimer = none ∧ State.reset.scan.scanTimer = some 500 ∧ passing.scan.pass.head? ≠ some 2 ∧
      passing.scan.pass = 3 :: [2] ∧ (State.reset.sensor 31).refreshTimer = none ∧ (timed.sensor 31).refreshTimer = some 10000 ∧
      (State.reset.sensor 31).holdTimer = none ∧ (timed.sensor 31).holdTimer = some 30000 := by decide

theorem witness_IntervalComputesTheDemand :
    let warm := (withSensor State.reset 2 (.zoneAir 7) .internal).setSensor 2
      { state := .valid, last := 200, count := 3, holdTimer := none, refreshTimer := none }
    let off : State := { State.reset with orders := { State.reset.orders with
      targets := Tab.put State.reset.orders.targets 7 { Target.reset with activity := .inactive, ts := none } } }
    let stopped := State.reset.setReg 7 { State.reset.reg 7 with timer := none }
    ((-401 : Int) < -400 ∧ (350 : Int) ≤ 350 ∧ (-400 : Int) = -400 + 50 * ((0 : Fin 15).val : Int) + (0 : Nat) ∧
      (349 : Int) = -400 + 50 * ((14 : Fin 15).val : Int) + (49 : Nat) ∧ (49 : Nat) < 50) ∧
      (stopped.reg 7).timer = none ∧ (State.reset.reg 7).timer = some 2000 ∧ (State.reset.target 7).activity = .active ∧
      (State.reset.target 7).ts = some 50 ∧ State.reset.ta 7 = none ∧ warm.ta 7 = some 200 ∧
      ((off.reg 7).timer = some 2000 ∧ (off.target 7).activity = .inactive) := by decide

theorem witness_ZonesPostAndTakeGrants : (7 : ZoneId) ≠ 0 ∧ (State.reset.zoneTakes 0 (State.reset.reg 0)).reg 7 = State.reset.reg 7 := by
  decide

theorem witness_TargetChangesFlapsAndZoneRestart :
    let s (u : Int) : State := State.reset.setReg 3 { State.reset.reg 3 with u := u }
    let bound : Int := 10 * (40 : Nat)
    (-bound ≤ ((s 400).reg 3).u ∧ ((s 400).reg 3).u ≤ bound) ∧ (-bound ≤ ((s (-400)).reg 3).u ∧ ((s (-400)).reg 3).u ≤ bound) ∧
      bound < ((s 401).reg 3).u ∧ ((s (-401)).reg 3).u < -bound ∧ Section.a ≠ (State.reset.zoneRec 3).sect ∧
      (State.reset.zoneRec 5).sect = (State.reset.zoneRec 3).sect := by decide

theorem witness_DraftsAndCurtainsFollowTheDoorways :
    let c := withChan State.reset 31 (.curtain 5) 60 0
    let off : State := { State.reset with mon := { State.reset.mon with ts := Tab.put State.reset.mon.ts 7 none } }
    hasZone (State.reset.doorRec 5).zones 6 = false ∧ Tab.get off.mon.ts 7 = none ∧
      (hasZone (State.reset.doorRec 5).zones 7 = true ∧ Tab.get State.reset.mon.ts 7 = some 50) ∧
      c.curtainChan 5 = some 31 ∧ State.reset.curtainChan 5 = none ∧
      exec (.curtainChannelPosting [5]) c = .next (after (.curtainChannelPosting [5]) c) :=
  ⟨by decide, by decide, by decide, by decide, by decide, rfl⟩

theorem witness_DoorwayInputsAreDebounced :
    let s (x : DoorState) (raw : Bool) : State :=
      State.reset.setDoor 5 { Door.reset with state := x, raw := raw, debounceTimer := some 200 }
    let held := withOrder (s .held false) (capSlot 5) (State.reset.capRec 5) (live .inForce 1)
    (State.reset.door 5).debounceTimer = none ∧ ((s .closed true).door 5).debounceTimer = some 200 ∧
      (((s .closed true).door 5).raw = true ∧ ((s .closed true).door 5).state = .closed) ∧
      ((s .tail true).door 5).state = .tail ∧ (((s .opened false).door 5).raw = false ∧ ((s .opened false).door 5).state = .opened) ∧
      ((held.door 5).debounceTimer = some 200 ∧ (held.door 5).raw = false ∧ (held.door 5).state = .held ∧
        (held.slot (capSlot 5)).entry = some { ord := State.reset.capRec 5, live := live .inForce 1, latch := none }) ∧
      (((s .fault false).door 5).raw = false ∧ ((s .fault false).door 5).state = .fault) := by decide

theorem witness_DoorwaysHoldFaultAndTail :
    let s (x : DoorState) : State := State.reset.setDoor 5
      { Door.reset with state := x, holdTimer := some 90000, faultTimer := some 5000, tailTimer := some 1000, tailRemaining := 1 }
    let held := withOrder (s .held) (capSlot 5) (State.reset.capRec 5) (live .inForce 1)
    ((State.reset.door 5).holdTimer = none ∧ (State.reset.door 5).faultTimer = none ∧ (State.reset.door 5).tailTimer = none) ∧
      (((s .opened).door 5).holdTimer = some 90000 ∧ ((s .opened).door 5).faultTimer = some 5000 ∧
        ((s .opened).door 5).state = .opened) ∧
      ((held.door 5).faultTimer = some 5000 ∧ (held.door 5).state = .held ∧
        (held.slot (capSlot 5)).entry = some { ord := State.reset.capRec 5, live := live .inForce 1, latch := none }) ∧
      (((s .tail).door 5).tailTimer = some 1000 ∧ ((s .tail).door 5).state = .tail) := by decide

theorem witness_RestartClosesTheDoorways :
    let s := State.reset.setDoor 5 { Door.reset with state := .held }
    let held := withOrder s (capSlot 5) (State.reset.capRec 5) (live .inForce 1)
    let level := withOrder s (capSlot 5) { State.reset.capRec 5 with kind := .screen } (live .inForce 1)
    (∃ d, capSlot 5 = capSlot d ∧ (held.door d).state = .held ∧ (held.slot (capSlot 5)).entry ≠ none) ∧
      (¬∃ d, (63 : SlotId) = capSlot d ∧ (held.door d).state = .held ∧ (held.slot 63).entry ≠ none) ∧
      (hasZone (State.reset.capRec 5).zones 7 = true ∧ hasZone (State.reset.capRec 5).zones 0 = false ∧
        (held.slot (capSlot 5)).entry = some { ord := State.reset.capRec 5, live := live .inForce 1, latch := none }) ∧
      (State.reset.capRec 5).kind ≠ .screen ∧ (level.slot (capSlot 5)).entry ≠ none := by decide

theorem witness_WatchIsJudged :
    ((none : Option Int) = none ∧ (500 : Int) ≤ 500 ∧ (499 : Int) < 500) ∧
      ((20 : Int) ≤ State.reset.cfg.screen.ice ∧ (0 : Int) ≤ 0) ∧ ¬(21 : Int) ≤ State.reset.cfg.screen.ice := by decide

theorem witness_LevelDrivesTheCabAndItsHeaters :
    let s := withChan (withChan State.reset 35 .screen 35 0) 32 .mirror 20 0
    s.screenHeater = some 3 ∧ State.reset.screenHeater = none ∧
      (s.chanRec (auxChan 0)).type = .mirror ∧ ¬(s.screenHeater = some 1 ∨ (s.chanRec (auxChan 1)).type = .mirror) := by decide

theorem witness_AllowancesAreTakenAndLapse :
    let s (x : SupplyState) (m : Mode) (low : Bool) : State := { State.reset with supply := { State.reset.supply with
      state := x, mode := m, lowBat := low, received := some 400, status := .current, allowanceTimer := some 2000 } }
    ((s .line .run true).supply.status = .current ∧ (s .line .run true).supply.received = some 400 ∧
      (s .line .run true).supply.state = .line ∧ (s .line .run true).supply.mode = .run ∧ (s .line .run true).supply.lowBat = true ∧
      (s .line .run true).supply.allowanceTimer = some 2000) ∧
      ((s .line .park false).supply.mode = .park ∧ (s .line .park false).supply.lowBat = false) ∧ (s .gap .run true).supply.state ≠ .line ∧
      State.reset.supply.status ≠ .current ∧ CabinMapSound State.reset ∧ depot.origin = .depot ∧ 2000 < (2001#16).toNat ∧
      ¬2000 < (2000#16).toNat := by decide

theorem witness_SupplyChangesInOneEvent :
    let s (x : SupplyState) : State := { State.reset with supply := { State.reset.supply with
      state := x, confirmTimer := some 500, gapHoldTimer := some 3000, pregapTimer := some 9000 } }
    (State.reset.supply.confirmTimer = none ∧ State.reset.supply.gapHoldTimer = none ∧ State.reset.supply.pregapTimer = none ∧
      State.reset.supply.allowanceTimer = none) ∧
      ((s .gap).supply.confirmTimer = some 500 ∧ (s .gap).supply.gapHoldTimer = some 3000 ∧ (s .gap).supply.state = .gap) ∧
      ((s .battery).supply.confirmTimer = some 500 ∧ (s .battery).supply.state = .battery) ∧
      ((s .pregap).supply.pregapTimer = some 9000 ∧ (s .pregap).supply.state = .pregap) ∧
      (fleet.origin = .fleet ∨ fleet.origin = .service) := by decide

theorem witness_LineReadingsAreJudged :
    let r := State.reset.cfg.supply
    let s (x : SupplyState) (t : Timer) : SupplyMonitor := { State.reset.supply with state := x, confirmTimer := t }
    ((r.low ≤ 400 ∧ 400 ≤ r.high) ∧ (r.low ≤ 900 ∧ 900 ≤ r.high) ∧ ¬(r.low ≤ 399 ∧ 399 ≤ r.high) ∧ ¬(r.low ≤ 901 ∧ 901 ≤ r.high)) ∧
      ((s .line none).state = .line ∨ (s .line none).state = .pregap) ∧
      (¬((s .gap none).state = .line ∨ (s .gap none).state = .pregap) ∧ (s .gap none).confirmTimer = none) ∧
      (¬((s .battery (some 9)).state = .line ∨ (s .battery (some 9)).state = .pregap) ∧ (s .battery (some 9)).confirmTimer ≠ none) := by
  decide

theorem witness_ModesAreEntered :
    driver.origin = .driver ∧ ¬depot.origin = .driver ∧ 1 < (2#8).toNat ∧ (0#8).toNat = 0 ∧ (1#8).toNat = 1 := by decide

theorem witness_BanksTestWorkAndPostAvailability :
    let s (x : Bank) : State := State.reset.setBank 3 x
    let work := (withChan (s (aBank .closed 0)) 31 (.convector 0) 60 0).setChan 31 { duty := 1, overheated := false, surface := .noSensor }
    (((s (aBank .opened 0)).bank 3).state ≠ .closed) ∧ ((work.bank 3).state = .closed ∧ work.hasWork 3 = true) ∧
      (((s (aBank .closed 0)).bank 3).state = .closed ∧ (s (aBank .closed 0)).hasWork 3 = false ∧
        ((s (aBank .closed 0)).bank 3).idleTimer = none) ∧
      ((s { aBank .closed 0 with idleTimer := some 60000 }).bank 3).idleTimer = some 60000 ∧
      (s { aBank .closed 0 with idleTimer := some 60000 }).hasWork 3 = false := by decide

theorem witness_DutiesAndSurfacesReachTheChannels :
    bankOf 32 = none ∧ bankOf 31 = some 3 ∧ ((withChan State.reset 31 (.convector 7) 60 0).chanRec 31).type = .convector 7 ∧
      ((withChan State.reset 31 (.curtain 5) 60 0).chanRec 31).type = .curtain 5 ∧
      ((withChan State.reset 35 .screen 60 0).chanRec 35).type = .screen ∧
      ((withChan State.reset 32 .mirror 60 0).chanRec 32).type = .mirror ∧ (State.reset.chanRec 31).type = .none := by decide

theorem witness_BanksFollowTheirPostings : (false = false) ∧ (true = true) ∧ (State.reset.bank 3).state = .opened := by decide

theorem witness_BankOperationsComplete :
    let s (x : Bank) : State := State.reset.setBank 3 x
    let opening (o : OpeningOutcome) (n : Nat) : Bank :=
      ((s { aBank .opening 0 with openingTimer := some 300, outcome := o, faults := n }).bank 3)
    ((State.reset.bank 3).prechargeTimer = none ∧ (State.reset.bank 3).rampTimer = none ∧ (State.reset.bank 3).idleTimer = none ∧
      (State.reset.bank 3).openingTimer = none) ∧
      (((s { aBank .precharge 0 with prechargeTimer := some 800 }).bank 3).prechargeTimer = some 800 ∧
        ((s { aBank .precharge 0 with prechargeTimer := some 800 }).bank 3).state = .precharge) ∧
      (let x := (s { aBank .closed 7 with rampTimer := some 250, idleTimer := some 60000 }).bank 3;
        x.rampTimer = some 250 ∧ x.idleTimer = some 60000 ∧ x.state = .closed ∧ x.ramp < 8) ∧
      ((opening .opened 0).openingTimer = some 300 ∧ (opening .opened 0).state = .opening ∧ (opening .opened 0).outcome = .opened) ∧
      (opening .locked 0).outcome = .locked ∧ ((opening .fault 2).outcome = .fault ∧ (opening .fault 2).faults < 3) := by decide

theorem witness_BankCommandsActByState :
    fleet.origin ≠ .service ∧ service.origin = .service ∧ 3 < (4#8).toNat ∧ (3#8).toNat = (3 : BankId).val ∧
      (let s := State.reset.setBank 3 (aBank .fault 0);
        (s.bank 3).state = .fault ∧ exec (.bankLock service 3) s = .next (after (.bankLock service 3) s) ∧
          exec (.bankClear service 3) s = .next (after (.bankClear service 3) s) ∧ bankOf 31 = some 3) ∧
      (let s := State.reset.setBank 3 (aBank .locked 0);
        (s.bank 3).state = .locked ∧ exec (.bankUnlock service 3) s = .next (after (.bankUnlock service 3) s)) :=
  ⟨by decide, rfl, by decide, rfl, ⟨rfl, rfl, rfl, by decide⟩, rfl, rfl⟩

theorem witness_ChannelsDriveWhileLive :
    let sum (s : State) : Nat := ((List.finRange 36).map fun d =>
      if (d.val < 32 ↔ (16 : ChanId).val < 32) ∧ s.live d = true then (s.chanRec d).rated * (s.chan d).duty else 0).sum
    (liveTwo 100).live 16 = true ∧ sum (liveTwo 100) ≤ 1000 * (liveTwo 100).lineAllowance ∧
      1000 * (liveTwo 99).lineAllowance < sum (liveTwo 99) ∧ (liveTwo 99).live 16 = true ∧ (liveTwo 99).live 0 = false := by decide

/-- The words of a LIMITS record at its defaults, and of a CHANNEL and a SENSOR record. -/
def limitsWords : LimitsWords :=
  { mask := 0xFF, bandMin := 160, bandMax := 260, frost := 0, warm := 220, floor := 50, scan := 500 }
def chanWords : ChanWords := { type := 0x0107, rated := 60, group := 0, limit := 800, enabled := 1 }
def sensorWords : SensorWords := { role := 0x0400, origin := 1, hold := 30, run := 3 }

theorem witness_RecordsAreReadByTheirTables :
    (zoneRecOf 7 { zoneWords with sect := 2 }).isSome = true ∧ zoneRecOf 7 { zoneWords with sect := 3 } = none ∧
      (doorRecOf { doorWords with zones := 255 }).isSome = true ∧ doorRecOf { doorWords with zones := 256 } = none ∧
      (State.reset.chanRecOf 31 chanWords).isSome = true ∧ State.reset.chanRecOf 32 chanWords = none ∧
      (State.reset.chanRecOf 35 { chanWords with type := 768 }).isSome = true ∧
      State.reset.chanRecOf 31 { chanWords with type := 768 } = none ∧
      (withChan State.reset 34 .screen 35 0).chanRecOf 35 { chanWords with type := 768 } = none ∧
      (withChan State.reset 30 (.curtain 5) 60 0).chanRecOf 31 { chanWords with type := 517 } = none ∧
      (State.reset.sensorRecOf 31 sensorWords).isSome = true ∧ State.reset.sensorRecOf 31 { sensorWords with origin := 2 } = none ∧
      (limitsRecOf { limitsWords with mask := 255 }).isSome = true ∧ limitsRecOf { limitsWords with mask := 256 } = none := by decide

theorem witness_ConfigureChecksInOrder :
    (fleet.origin = .fleet ∨ fleet.origin = .service) ∧ (8 ≤ (8#8).toNat ∧ (7#8).toNat = (7 : ZoneId).val) ∧
      (6 ≤ (6#8).toNat ∧ (5#8).toNat = (5 : DoorId).val) ∧ (36 ≤ (36#8).toNat ∧ (35#8).toNat = (35 : ChanId).val) ∧
      (32 ≤ (32#8).toNat ∧ (31#8).toNat = (31 : SensorId).val) ∧ (4 ≤ (4#8).toNat ∧ (3#8).toNat = (3 : BankId).val) ∧
      (0#8).toNat = 0 ∧ (1#8).toNat ≠ 0 ∧ (zoneRecOf 7 zoneWords).isSome = true ∧ (doorRecOf doorWords).isSome = true ∧
      (State.reset.chanRecOf 31 chanWords).isSome = true ∧ (State.reset.chanRecOf 31 { chanWords with type := 0, enabled := 1 }).isSome = true ∧
      (State.reset.sensorRecOf 31 sensorWords).isSome = true ∧ (limitsRecOf limitsWords).isSome = true := by decide

theorem witness_ZoneAndDoorwayRecordsTakeEffect :
    let s := State.reset.setDoor 5 { Door.reset with state := .held }
    let held := withOrder s (capSlot 5) (State.reset.capRec 5) (live .inForce 1)
    (Section.c ≠ (State.reset.zoneRec 0).sect ∧ Section.c ≠ .b) ∧ (State.reset.door 5).state ≠ .held ∧
      (held.door 5).state = .held ∧
      (held.slot (capSlot 5)).entry = some { ord := State.reset.capRec 5, live := live .inForce 1, latch := none } := by decide

theorem witness_OtherRecordsTakeEffect :
    bankOf 31 = some 3 ∧ (35 : ChanId) = auxChan 3 ∧
      ((State.reset.chanRec 31).enabled = false ∧ (State.reset.chan 31).surface ≠ .lost) ∧
      ((State.reset.sensorRec 31).role = Role.unused ∧ ¬(State.reset.sensorRec 31).role = Role.outside) ∧
      (State.reset.slot 62).entry.isSome = true ∧ (State.reset.slot 63).entry.isSome = true := by decide

theorem witness_StepKeepsTheOrderTable :
    step State.reset = .next (after (.lineReading 0 false) State.reset) ∧ SlotsSound State.reset ∧ HostOrdersSound State.reset ∧
      (∀ c ∈ State.reset.pending ++ State.reset.posts, WellFormed c = true) ∧ CabinMapSound State.reset ∧
      OrdersInRange State.reset ∧ OrdersSound State.reset ∧ TargetsCurrent State.reset :=
  ⟨rfl, by decide, by decide, by decide, by decide, by decide, by decide, by decide⟩

theorem witness_StepKeepsTheBlocks :
    step State.reset = .next (after (.lineReading 0 false) State.reset) ∧ DoorsSound State.reset ∧ RegulatorsSound State.reset ∧
      SupplySound State.reset ∧ BanksSound State.reset ∧ ChansSound State.reset :=
  ⟨rfl, by decide, by decide, by decide, by decide, by decide⟩

theorem witness_StepKeepsTheLinkAndTheCabinMap :
    step State.reset = .next (after (.lineReading 0 false) State.reset) ∧ LinkSound State.reset ∧ CabinMapSound State.reset :=
  ⟨rfl, by decide, by decide⟩

theorem witness_StepKeepsTheMachineSound :
    Sound State.reset ∧ step State.reset = .next (after (.lineReading 0 false) State.reset) := ⟨by decide, rfl⟩

end Sys2Proof.Tests
end

/-! PROOFS. Resolution and the zone targets (chapter 03), and the power-on state: who takes part and who wins, the
fields of a resolved target, then what a resolution recomputes, posts and leaves as it was. -/

namespace Sys2Proof.Machine.Resolution

/-! ### Who takes part, and in which order (R52) -/

theorem takesPart_iff (l : OrderLive) : takesPart l = true ↔ l.state = .inForce ∨ l.state = .tailing := by
  simp [takesPart]

/-- The list that resolution takes a zone's orders from holds exactly those that take part there. -/
theorem mem_inZone_iff {slots : Vector Slot 64} {kind : Kind} {z : ZoneId} {k : SlotId} {o : OrderRec} :
    (k, o) ∈ inZone (inForceOrders slots) kind z ↔ takesPartIn slots kind z k o := by
  simp only [inZone, List.mem_filter, mem_inForceOrders, takesPart_iff, Bool.and_eq_true, decide_eq_true_eq]
  constructor
  · rintro ⟨⟨e, he, hp, ho⟩, hk, hz⟩
    exact ⟨e, he, ho, hp, hk, hz⟩
  · rintro ⟨e, he, ho, hp, hk, hz⟩
    exact ⟨⟨e, he, hp, ho⟩, hk, hz⟩

/-- The list the screen level is taken from holds exactly the SCREEN orders that take part. -/
theorem mem_screenOrders_iff {slots : Vector Slot 64} {k : SlotId} {o : OrderRec} :
    (k, o) ∈ (inForceOrders slots).filter (fun x => decide (x.2.kind = .screen)) ↔ takesPartInScreen slots k o := by
  simp only [List.mem_filter, mem_inForceOrders, takesPart_iff, decide_eq_true_eq]
  constructor
  · rintro ⟨⟨e, he, hp, ho⟩, hk⟩
    exact ⟨e, he, ho, hp, hk⟩
  · rintro ⟨e, he, ho, hp, hk⟩
    exact ⟨⟨e, he, hp, ho⟩, hk⟩

/-- No order takes part exactly where the list is empty. -/
theorem inZone_eq_nil_iff {slots : Vector Slot 64} {kind : Kind} {z : ZoneId} :
    inZone (inForceOrders slots) kind z = [] ↔ ∀ k o, ¬takesPartIn slots kind z k o := by
  simp only [List.eq_nil_iff_forall_not_mem, Prod.forall, mem_inZone_iff]

theorem inForceOrders_ascending (slots : Vector Slot 64) : (inForceOrders slots).Pairwise fun x y => x.1 < y.1 := by
  refine List.Pairwise.filterMap _ ?_ (List.pairwise_lt_finRange 64)
  have slot_eq : ∀ (k : SlotId) (x : SlotId × OrderRec), (match (Tab.get slots k).entry with
      | none => none
      | some e => if takesPart e.live then some (k, e.ord) else none) = some x → x.1 = k := by
    intro k x h
    split at h
    · cases h
    · split at h <;> cases h
      rfl
  intro a b hab x hx y hy
  rw [slot_eq a x hx, slot_eq b y hy]
  exact hab

theorem inZone_ascending (slots : Vector Slot 64) (kind : Kind) (z : ZoneId) :
    (inZone (inForceOrders slots) kind z).Pairwise fun x y => x.1 < y.1 :=
  (inForceOrders_ascending slots).filter _

/-! ### The winner (R53, R57) -/

/-- The table of R52 ranks the sources as the model does. -/
theorem rank_eq_rankOf (x : Source) : x.rank = rankOf x := by cases x <;> decide

theorem wins_unique {slots : Vector Slot 64} {kind : Kind} {z : ZoneId} {k k' : SlotId} {o o' : OrderRec}
    (h : wins slots kind z k o) (h' : wins slots kind z k' o') : (k, o) = (k', o') := by
  obtain ⟨htakes, hbest⟩ := h
  obtain ⟨htakes', hbest'⟩ := h'
  have hk : k = k' := by
    have hle := hbest k' o' htakes'
    have hge := hbest' k o htakes
    simp only [Fin.le_def, Fin.ext_iff] at hle hge ⊢
    omega
  subst hk
  obtain ⟨e, he, rfl, -⟩ := htakes
  obtain ⟨e', he', rfl, -⟩ := htakes'
  rw [he] at he'
  cases he'
  rfl

/-- The order that the list's winner names wins: those before it are of a higher rank, and those after it, in higher
slots, of no lower one. -/
theorem wins_of_winner {slots : Vector Slot 64} {kind : Kind} {z : ZoneId} {k : SlotId} {o : OrderRec}
    (h : winner (inZone (inForceOrders slots) kind z) = some (k, o)) : wins slots kind z k o := by
  obtain ⟨before, after, hl, hbefore, hafter⟩ := (winner_spec _).2 _ h
  have hsorted := inZone_ascending slots kind z
  rw [hl, List.pairwise_append, List.pairwise_cons] at hsorted
  obtain ⟨-, ⟨hslots, -⟩, -⟩ := hsorted
  refine ⟨mem_inZone_iff.mp (by simp [hl]), fun k' o' htakes => ?_⟩
  rw [← rank_eq_rankOf, ← rank_eq_rankOf]
  have hmem := mem_inZone_iff.mpr htakes
  rw [hl, List.mem_append, List.mem_cons] at hmem
  rcases hmem with hmem | hmem | hmem
  · exact .inl (hbefore _ hmem)
  · cases hmem
    exact .inr ⟨rfl, Fin.le_refl k⟩
  · have hrank := hafter _ hmem
    have hslot := hslots _ hmem
    simp only [Fin.lt_def, Fin.le_def] at hrank hslot ⊢
    omega

theorem winner_isSome_of_takesPartIn {slots : Vector Slot 64} {kind : Kind} {z : ZoneId} {k : SlotId} {o : OrderRec}
    (h : takesPartIn slots kind z k o) : ∃ x, winner (inZone (inForceOrders slots) kind z) = some x := by
  rw [← Option.ne_none_iff_exists', Ne, (winner_spec _).1]
  exact List.ne_nil_of_mem (mem_inZone_iff.mpr h)

theorem winner_eq_some_iff {slots : Vector Slot 64} {kind : Kind} {z : ZoneId} {k : SlotId} {o : OrderRec} :
    winner (inZone (inForceOrders slots) kind z) = some (k, o) ↔ wins slots kind z k o := by
  refine ⟨wins_of_winner, fun h => ?_⟩
  obtain ⟨⟨k', o'⟩, hw⟩ := winner_isSome_of_takesPartIn h.1
  rw [hw, wins_unique h (wins_of_winner hw)]

theorem winner_eq_none_iff {slots : Vector Slot 64} {kind : Kind} {z : ZoneId} :
    winner (inZone (inForceOrders slots) kind z) = none ↔ ∀ k o, ¬takesPartIn slots kind z k o :=
  (winner_spec _).1.trans inZone_eq_nil_iff

theorem exists_wins {slots : Vector Slot 64} {kind : Kind} {z : ZoneId} (h : ∃ k o, takesPartIn slots kind z k o) :
    ∃ k o, wins slots kind z k o := by
  obtain ⟨k, o, h⟩ := h
  obtain ⟨⟨k', o'⟩, hw⟩ := winner_isSome_of_takesPartIn h
  exact ⟨k', o', wins_of_winner hw⟩

/-! ### Hold result and fan order (R53, R57) -/

theorem holdOf_of_wins {slots : Vector Slot 64} {z : ZoneId} {k : SlotId} {o : OrderRec} (mode : Mode) (r : ZoneRec)
    (h : wins slots .hold z k o) :
    holdOf (inForceOrders slots) mode r z = (if o.value = 0 then .off else .setpoint o.value, .slot k) := by
  simp [holdOf, winner_eq_some_iff.mpr h]

theorem holdOf_run {slots : Vector Slot 64} {z : ZoneId} (r : ZoneRec) (h : ∀ k o, ¬takesPartIn slots .hold z k o) :
    holdOf (inForceOrders slots) .run r z = (.setpoint r.setpoint, .default) := by
  simp [holdOf, winner_eq_none_iff.mpr h]

theorem holdOf_park {slots : Vector Slot 64} {z : ZoneId} (r : ZoneRec) (h : ∀ k o, ¬takesPartIn slots .hold z k o) :
    holdOf (inForceOrders slots) .park r z = (.off, .parked) := by
  simp [holdOf, winner_eq_none_iff.mpr h]

theorem fanOf_of_wins {slots : Vector Slot 64} {z : ZoneId} {k : SlotId} {o : OrderRec} (h : wins slots .vent z k o) :
    fanOf (inForceOrders slots) z = (o.value.toNat, some k) := by
  simp [fanOf, winner_eq_some_iff.mpr h]

theorem fanOf_none {slots : Vector Slot 64} {z : ZoneId} (h : ∀ k o, ¬takesPartIn slots .vent z k o) :
    fanOf (inForceOrders slots) z = (0, none) := by
  simp [fanOf, winner_eq_none_iff.mpr h]

/-! ### Floor, cap and screen level (R55, R56, R58) -/

/-- There is no floor exactly where every FLOOR order that takes part asks for 0 or less. -/
theorem floorOf_eq_none_iff {slots : Vector Slot 64} {z : ZoneId} :
    floorOf (inForceOrders slots) z = none ↔ ∀ k o, takesPartIn slots .floor z k o → o.value ≤ 0 := by
  obtain ⟨hstart, hbound, hattained⟩ := foldl_max_spec (inZone (inForceOrders slots) .floor z) (fun x => x.2.value) 0
  simp only [floorOf, ite_eq_left_iff, reduceCtorEq, imp_false, Decidable.not_not]
  constructor
  · intro h k o htakes
    exact h ▸ hbound (k, o) (mem_inZone_iff.mpr htakes)
  · intro h
    rcases hattained with hzero | ⟨⟨k, o⟩, hx, hvalue⟩
    · exact hzero
    · have := h k o (mem_inZone_iff.mp hx)
      simp only at hvalue
      omega

/-- A floor is the greatest value of the FLOOR orders that take part. -/
theorem floorOf_eq_some_iff {slots : Vector Slot 64} {z : ZoneId} {f : Int} :
    floorOf (inForceOrders slots) z = some f ↔
      0 < f ∧ (∃ k o, takesPartIn slots .floor z k o ∧ o.value = f) ∧
        ∀ k o, takesPartIn slots .floor z k o → o.value ≤ f := by
  obtain ⟨hstart, hbound, hattained⟩ := foldl_max_spec (inZone (inForceOrders slots) .floor z) (fun x => x.2.value) 0
  simp only [floorOf, Option.ite_none_left_eq_some, Option.some.injEq]
  constructor
  · rintro ⟨hne, rfl⟩
    refine ⟨by omega, ?_, fun k o htakes => hbound (k, o) (mem_inZone_iff.mpr htakes)⟩
    obtain ⟨⟨k, o⟩, hx, hvalue⟩ := hattained.resolve_left hne
    exact ⟨k, o, mem_inZone_iff.mp hx, hvalue.symm⟩
  · rintro ⟨hpos, ⟨k, o, htakes, rfl⟩, hgreatest⟩
    have hle := hbound (k, o) (mem_inZone_iff.mpr htakes)
    rcases hattained with hzero | ⟨⟨k', o'⟩, hx, hvalue⟩
    · simp only at hle
      omega
    · have := hgreatest k' o' (mem_inZone_iff.mp hx)
      simp only at hle hvalue
      omega

/-- The least of a start value and a list's numbers is below them all, and is one of them. -/
theorem foldl_min_spec {α : Type} (l : List α) (f : α → Nat) (n : Nat) :
    (∀ x ∈ l, l.foldl (fun m x => min m (f x)) n ≤ f x) ∧ l.foldl (fun m x => min m (f x)) n ≤ n ∧
      (l.foldl (fun m x => min m (f x)) n = n ∨ ∃ x ∈ l, l.foldl (fun m x => min m (f x)) n = f x) := by
  induction l generalizing n with
  | nil => simp
  | cons a as ih =>
    obtain ⟨hall, hstart, hattained⟩ := ih (min n (f a))
    simp only [List.foldl_cons, List.forall_mem_cons]
    refine ⟨⟨by omega, hall⟩, by omega, ?_⟩
    rcases hattained with h | ⟨x, hx, h⟩
    · rcases Nat.le_total n (f a) with hle | hle
      · exact .inl (by omega)
      · exact .inr ⟨a, List.mem_cons_self, by omega⟩
    · exact .inr ⟨x, List.mem_cons_of_mem a hx, h⟩

/-- The least value of the CAP orders that take part is the cap. -/
theorem capOf_eq_least {slots : Vector Slot 64} {z : ZoneId} {k : SlotId} {o : OrderRec}
    (htakes : takesPartIn slots .cap z k o) (hlo : 0 ≤ o.value) (hhi : o.value ≤ 100)
    (hleast : ∀ k' o', takesPartIn slots .cap z k' o' → o.value ≤ o'.value) :
    (capOf (inForceOrders slots) z : Int) = o.value := by
  obtain ⟨hall, -, hattained⟩ := foldl_min_spec (inZone (inForceOrders slots) .cap z) (fun x => x.2.value.toNat) 100
  have hle := hall (k, o) (mem_inZone_iff.mpr htakes)
  unfold capOf
  rcases hattained with h | ⟨⟨k', o'⟩, hx, h⟩
  · simp only at hle
    omega
  · have := hleast k' o' (mem_inZone_iff.mp hx)
    simp only at hle h
    omega

/-- A greatest number counted from a natural one on is the same as a natural number. -/
theorem foldl_max_toNat {α : Type} (l : List α) (f : α → Int) (n : Nat) :
    ((l.foldl (fun m x => max m (f x).toNat) n : Nat) : Int) = l.foldl (fun m x => max m (f x)) (n : Int) := by
  induction l generalizing n with
  | nil => rfl
  | cons a as ih =>
    have hcast : ((max n (f a).toNat : Nat) : Int) = max (n : Int) (f a) := by omega
    rw [List.foldl_cons, ih, hcast, List.foldl_cons]

theorem resolvedLevel_eq_zero {slots : Vector Slot 64} (h : ∀ k o, ¬takesPartInScreen slots k o) :
    resolvedLevel (inForceOrders slots) = 0 := by
  have hnil : (inForceOrders slots).filter (fun x => decide (x.2.kind = .screen)) = [] := by
    simpa only [List.eq_nil_iff_forall_not_mem, Prod.forall, mem_screenOrders_iff] using h
  simp [resolvedLevel, hnil]

/-- The greatest value of the SCREEN orders that take part is the screen level. -/
theorem resolvedLevel_eq_greatest {slots : Vector Slot 64} {k : SlotId} {o : OrderRec}
    (htakes : takesPartInScreen slots k o) (hlo : 0 ≤ o.value)
    (hgreatest : ∀ k' o', takesPartInScreen slots k' o' → o'.value ≤ o.value) :
    (resolvedLevel (inForceOrders slots) : Int) = o.value := by
  obtain ⟨-, hall, hattained⟩ := foldl_max_spec
    ((inForceOrders slots).filter fun x : SlotId × OrderRec => decide (x.2.kind = .screen)) (fun x => x.2.value) (0 : Nat)
  have hle := hall (k, o) (mem_screenOrders_iff.mpr htakes)
  rw [resolvedLevel, foldl_max_toNat _ fun x : SlotId × OrderRec => x.2.value]
  rcases hattained with h | ⟨⟨k', o'⟩, hx, h⟩
  · simp only at hle
    omega
  · have := hgreatest k' o' (mem_screenOrders_iff.mp hx)
    simp only at hle h
    omega

/-! ### The resolved target, field by field -/

section
variable (l : List (SlotId × OrderRec)) (mode : Mode) (r : ZoneRec) (z : ZoneId)

@[simp] theorem resolvedTarget_hold : (resolvedTarget l mode r z).hold = (holdOf l mode r z).1 := rfl
@[simp] theorem resolvedTarget_holdOrigin : (resolvedTarget l mode r z).holdOrigin = (holdOf l mode r z).2 := rfl
@[simp] theorem resolvedTarget_offset : (resolvedTarget l mode r z).offset = offsetOf l z := rfl
@[simp] theorem resolvedTarget_floor : (resolvedTarget l mode r z).floor = floorOf l z := rfl
@[simp] theorem resolvedTarget_cap : (resolvedTarget l mode r z).cap = capOf l z := rfl
@[simp] theorem resolvedTarget_fanOrder : (resolvedTarget l mode r z).fanOrder = (fanOf l z).1 := rfl
@[simp] theorem resolvedTarget_fanOrigin : (resolvedTarget l mode r z).fanOrigin = (fanOf l z).2 := rfl
@[simp] theorem resolvedTarget_activity : (resolvedTarget l mode r z).activity =
    if (resolvedTarget l mode r z).ts.isSome then .active else .inactive := rfl

/-- With OFF the effective setpoint is the floor, if there is one (R59). -/
theorem resolvedTarget_ts_of_off (h : (resolvedTarget l mode r z).hold = .off) :
    (resolvedTarget l mode r z).ts = (resolvedTarget l mode r z).floor := by
  rw [resolvedTarget_hold] at h
  simp [resolvedTarget, setpointOf, h]

/-- A setpoint is added to the offset, clamped to the band and raised to the floor (R54, R59). -/
theorem resolvedTarget_ts_of_setpoint {x : Int} (h : (resolvedTarget l mode r z).hold = .setpoint x) :
    (resolvedTarget l mode r z).ts =
      some (max (max r.bandMin (min r.bandMax (x + (resolvedTarget l mode r z).offset)))
        ((resolvedTarget l mode r z).floor.getD 0)) := by
  rw [resolvedTarget_hold] at h
  simp [resolvedTarget, setpointOf, h, clamp]

end

/-- Settles O21: the winner of the sorted list of orders, and the extremes of the lists of values. -/
theorem holdFanFloorCapAndLevelAreResolved : Obligations.HoldFanFloorCapAndLevelAreResolved := by
  refine ⟨fun slots mode r z => ⟨?_, ?_, exists_wins, ?_, ?_, exists_wins⟩,
    fun slots mode r z => ⟨floorOf_eq_none_iff.mpr, ?_, ?_, ?_, resolvedLevel_eq_zero, ?_⟩⟩
  · intro k o h
    simp [holdOf_of_wins mode r h]
  · intro h
    constructor
    · rintro rfl
      simp [holdOf_run r h]
    · rintro rfl
      simp [holdOf_park r h]
  · intro k o h
    simp [fanOf_of_wins h]
  · intro h
    simp [fanOf_none h]
  · intro k o htakes hpos hgreatest
    exact floorOf_eq_some_iff.mpr ⟨hpos, ⟨k, o, htakes, rfl⟩, hgreatest⟩
  · intro h
    simp [capOf, inZone_eq_nil_iff.mpr h]
  · intro k o htakes hlo hhi hleast
    exact capOf_eq_least htakes hlo hhi hleast
  · intro k o htakes hlo hgreatest
    exact resolvedLevel_eq_greatest htakes hlo hgreatest

/-! ### The offset (R54) -/

/-- A sum over a list's chosen elements, taken over the whole list with 0 for the others. -/
theorem sum_map_filterMap {α β : Type} (l : List α) (g : α → Option β) (v : β → Int) :
    ((l.filterMap g).map v).sum = (l.map fun a => ((g a).map v).getD 0).sum := by
  induction l with
  | nil => rfl
  | cons a as ih => cases h : g a <;> simp [h, ih]

theorem offsetOf_eq_clamped_sum (l : List (SlotId × OrderRec)) (z : ZoneId) :
    offsetOf l z = max (-80) (min 80 ((inZone l .offset z).map fun x => x.2.value).sum) := by
  rw [offsetOf, foldl_add_eq_sum_int _ fun x : SlotId × OrderRec => x.2.value, Int.zero_add]
  rfl

/-- A stored OFFSET lies in R24's range; a DRIVER's in R27's, which is within it. -/
theorem clampFor_offset_bounds (l : LimitsRec) (o : Origin) (v : Int) :
    -80 ≤ clampFor l o .offset v ∧ clampFor l o .offset v ≤ 80 := by
  have hown := clamp_bounds (show (-80 : Int) ≤ 80 by decide) v
  have hdriver := clamp_bounds (show (-30 : Int) ≤ 30 by decide) (clamp (-80) 80 v)
  simp only [clampFor, clampValue, driverClamp]
  split
  · omega
  · exact hown

/-- Settles O22: the fold over the orders in force is a sum over all slots. -/
theorem offsetIsTheClampedSum : Obligations.OffsetIsTheClampedSum := by
  intro slots mode r z t contribution
  refine ⟨?_, fun h => ?_, fun x => resolvedTarget_ts_of_setpoint _ _ _ _, resolvedTarget_ts_of_off _ _ _ _,
    clampFor_offset_bounds⟩
  · have hsum : ((inZone (inForceOrders slots) .offset z).map fun x => x.2.value).sum =
        ((List.finRange 64).map contribution).sum := by
      rw [inZone, inForceOrders, List.filter_filterMap, sum_map_filterMap]
      congr 2
      funext k
      simp only [contribution]
      cases (Tab.get slots k).entry with
      | none => rfl
      | some e =>
        by_cases hp : e.live.state = .inForce ∨ e.live.state = .tailing <;>
          by_cases hz : e.ord.kind = .offset ∧ hasZone e.ord.zones z = true <;> simp [takesPart, hp, hz, Option.filter]
    rw [resolvedTarget_offset, offsetOf_eq_clamped_sum, hsum]
  · rw [resolvedTarget_offset, offsetOf_eq_clamped_sum, inZone_eq_nil_iff.mpr h]
    rfl

/-! ### The effective setpoint (R59) -/

/-- A FLOOR that takes part is not above the floor, which is 0 where there is none. -/
theorem le_floorOf_getD {slots : Vector Slot 64} {z : ZoneId} {k : SlotId} {o : OrderRec}
    (h : takesPartIn slots .floor z k o) : o.value ≤ (floorOf (inForceOrders slots) z).getD 0 := by
  cases hf : floorOf (inForceOrders slots) z with
  | none => exact floorOf_eq_none_iff.mp hf k o h
  | some f =>
    obtain ⟨-, -, hgreatest⟩ := floorOf_eq_some_iff.mp hf
    exact hgreatest k o h

theorem floorOf_le {slots : Vector Slot 64} {z : ZoneId} {b : Int}
    (h : ∀ k o, takesPartIn slots .floor z k o → o.value ≤ b) :
    ∀ f, floorOf (inForceOrders slots) z = some f → f ≤ b := by
  intro f hf
  obtain ⟨-, ⟨k, o, htakes, rfl⟩, -⟩ := floorOf_eq_some_iff.mp hf
  exact h k o htakes

/-- Settles O23: by the hold result and by whether there is a floor. -/
theorem effectiveSetpointByR59 : Obligations.EffectiveSetpointByR59 := by
  intro slots mode r z hr t
  obtain ⟨-, -, ⟨hmin, hband⟩, ⟨hmax, -⟩, -⟩ := hr
  have hoff : t.hold = .off → t.ts = t.floor := resolvedTarget_ts_of_off _ _ _ _
  have hset : ∀ x, t.hold = .setpoint x →
      t.ts = some (max (max r.bandMin (min r.bandMax (x + t.offset))) (t.floor.getD 0)) :=
    fun x => resolvedTarget_ts_of_setpoint _ _ _ _
  have hactivity : t.activity = if t.ts.isSome then .active else .inactive := rfl
  refine ⟨fun hh hf => ?_, fun f hh hf => ?_, fun x hh => ⟨?_, fun hf => ?_, fun f hf => ?_⟩, fun hfloors x hx => ?_⟩
  · simp [hactivity, hoff hh, hf]
  · simp [hactivity, hoff hh, hf]
  · simp [hactivity, hset x hh]
  · rw [hset x hh, hf, Option.getD_none]
    congr 1
    omega
  · rw [hset x hh, hf, Option.getD_some]
    congr 1
    split <;> omega
  · have hle : ∀ f, t.floor = some f → f ≤ 150 := floorOf_le hfloors
    have hge : ∀ k o, takesPartIn slots .floor z k o → o.value ≤ t.floor.getD 0 := fun k o => le_floorOf_getD
    suffices h : x ≤ r.bandMax ∧ t.floor.getD 0 ≤ x from ⟨h.1, fun k o htakes => Int.le_trans (hge k o htakes) h.2⟩
    cases hh : t.hold with
    | off =>
      rw [hoff hh] at hx
      have := hle x hx
      rw [hx, Option.getD_some]
      omega
    | setpoint y =>
      rw [hset y hh, Option.some.injEq] at hx
      have : t.floor.getD 0 ≤ 150 := by
        cases hf : t.floor with
        | none => decide
        | some f => exact hle f hf
      omega


/-! ### What a resolution does to the Order Table (R63) -/

section
variable (s : State) (zs : ZoneSet) (scr : Bool)

/-- To resolve what an order covers is to resolve its zones, and for a SCREEN order the screen level. -/
theorem resolveOrder_eq (o : OrderRec) : s.resolveOrder o = s.resolve o.zones (decide (o.kind = .screen)) := rfl

theorem resolve_target (z : ZoneId) : (s.resolve zs scr).target z =
    if hasZone zs z = true then resolvedTarget (inForceOrders s.orders.slots) s.orders.mode (s.zoneRec z) z
    else s.target z :=
  Tab.get_build _ z

theorem resolve_level : (s.resolve zs scr).orders.level =
    if scr = true then resolvedLevel (inForceOrders s.orders.slots) else s.orders.level := rfl

/-- Of the Order Table a resolution recomputes the targets, the level and the orders' effects alone. -/
theorem resolve_frame : s.resolve zs scr =
    { s with
      posts := (s.resolve zs scr).posts
      orders := { s.orders with
        targets := (s.resolve zs scr).orders.targets
        level := (s.resolve zs scr).orders.level
        slots := (s.resolve zs scr).orders.slots } } := rfl

/-- An order that the resolution reaches has its effect recomputed, by the targets and the level after it. -/
theorem resolve_slot_of_reached {k : SlotId} {e : Entry} (he : (s.slot k).entry = some e)
    (h : reachedBy zs scr e.ord = true) : (s.resolve zs scr).slot k =
      { gen := (s.slot k).gen
        entry := some { e with live := { e.live with
          effect := effectOf (s.resolve zs scr).orders.targets (s.resolve zs scr).orders.level k e.ord e.live } } } := by
  simp only [State.slot] at he
  simp only [State.slot, State.resolve, OrderTable.resolved, Tab.get_build, he, h, if_true]

/-- One that it does not reach keeps its effect. -/
theorem resolve_slot_of_not_reached {k : SlotId} {e : Entry} (he : (s.slot k).entry = some e)
    (h : reachedBy zs scr e.ord = false) : (s.resolve zs scr).slot k = s.slot k := by
  simp only [State.slot] at he
  simp only [State.slot, State.resolve, OrderTable.resolved, Tab.get_build, he, h, Bool.false_eq_true, if_false]

end

/-! ### What a resolution posts (R64) -/

/-- The postings that a resolution adds: those of the resolved zones, then a changed screen level. -/
def newPostings (s : State) (zs : ZoneSet) (scr : Bool) : List Instr :=
  ((zonesOf zs).flatMap fun z => targetPostings z (s.target z) ((s.resolve zs scr).target z)) ++
    if (s.resolve zs scr).orders.level = s.orders.level then []
    else [.screenLevelPosting (s.resolve zs scr).orders.level]

theorem resolve_posts (s : State) (zs : ZoneSet) (scr : Bool) :
    (s.resolve zs scr).posts = s.posts ++ newPostings s zs scr :=
  List.append_assoc _ _ _

theorem targetPostings_self (z : ZoneId) (t : Target) : targetPostings z t t = [] := by
  cases h : t.activity <;> simp [targetPostings, h]

theorem mem_targetPostings {z : ZoneId} {old new : Target} {c : Instr} :
    c ∈ targetPostings z old new ↔
      (c = .zoneInactivePosting z ∧ old.activity = .active ∧ new.activity = .inactive) ∨
      (c = .capLowered z new.cap ∧ new.cap < old.cap) ∨
      (c = .zoneTargetPosting z new.ts ∧ ¬(old.activity = new.activity ∧ old.ts = new.ts)) := by
  simp only [targetPostings, List.mem_append, List.mem_ite_nil_right, List.mem_ite_nil_left, List.mem_singleton]
  exact or_assoc.trans (or_congr and_comm (or_congr and_comm and_comm))

/-- A zone that is not resolved keeps its target, and so would have nothing to post: the postings are those of all
zones. -/
theorem mem_newPostings {s : State} {zs : ZoneSet} {scr : Bool} {c : Instr} :
    c ∈ newPostings s zs scr ↔
      (∃ z, c ∈ targetPostings z (s.target z) ((s.resolve zs scr).target z)) ∨
      (c = .screenLevelPosting (s.resolve zs scr).orders.level ∧ (s.resolve zs scr).orders.level ≠ s.orders.level) := by
  have hzones : (∃ z, hasZone zs z = true ∧ c ∈ targetPostings z (s.target z) ((s.resolve zs scr).target z)) ↔
      ∃ z, c ∈ targetPostings z (s.target z) ((s.resolve zs scr).target z) := by
    refine exists_congr fun z => and_iff_right_of_imp fun hc => ?_
    by_cases hz : hasZone zs z = true
    · exact hz
    · rw [resolve_target, if_neg hz, targetPostings_self] at hc
      cases hc
  simp only [newPostings, List.mem_append, List.mem_flatMap, mem_zonesOf, hzones, List.mem_ite_nil_left,
    List.mem_singleton]
  exact or_congr_right and_comm

section
variable {s : State} {zs : ZoneSet} {scr : Bool}

theorem zoneInactive_mem_newPostings {z : ZoneId} : .zoneInactivePosting z ∈ newPostings s zs scr ↔
    (s.target z).activity = .active ∧ ((s.resolve zs scr).target z).activity = .inactive := by
  rw [mem_newPostings]
  constructor
  · rintro (⟨y, hc⟩ | ⟨⟨⟩, -⟩)
    rcases mem_targetPostings.mp hc with ⟨h, hchange⟩ | ⟨⟨⟩, -⟩ | ⟨⟨⟩, -⟩
    cases h
    exact hchange
  · intro hchange
    exact .inl ⟨z, mem_targetPostings.mpr (.inl ⟨rfl, hchange⟩)⟩

theorem capLowered_mem_newPostings {z : ZoneId} {c : Nat} : .capLowered z c ∈ newPostings s zs scr ↔
    c = ((s.resolve zs scr).target z).cap ∧ c < (s.target z).cap := by
  rw [mem_newPostings]
  constructor
  · rintro (⟨y, hc⟩ | ⟨⟨⟩, -⟩)
    rcases mem_targetPostings.mp hc with ⟨⟨⟩, -⟩ | ⟨h, hlower⟩ | ⟨⟨⟩, -⟩
    cases h
    exact ⟨rfl, hlower⟩
  · rintro ⟨rfl, hlower⟩
    exact .inl ⟨z, mem_targetPostings.mpr (.inr (.inl ⟨rfl, hlower⟩))⟩

theorem zoneTarget_mem_newPostings {z : ZoneId} {ts : Option Int} : .zoneTargetPosting z ts ∈ newPostings s zs scr ↔
    ts = ((s.resolve zs scr).target z).ts ∧
      ¬((s.target z).activity = ((s.resolve zs scr).target z).activity ∧ (s.target z).ts = ts) := by
  rw [mem_newPostings]
  constructor
  · rintro (⟨y, hc⟩ | ⟨⟨⟩, -⟩)
    rcases mem_targetPostings.mp hc with ⟨⟨⟩, -⟩ | ⟨⟨⟩, -⟩ | ⟨h, hchange⟩
    cases h
    exact ⟨rfl, hchange⟩
  · rintro ⟨rfl, hchange⟩
    exact .inl ⟨z, mem_targetPostings.mpr (.inr (.inr ⟨rfl, hchange⟩))⟩

theorem screenLevel_mem_newPostings {n : Nat} : .screenLevelPosting n ∈ newPostings s zs scr ↔
    n = (s.resolve zs scr).orders.level ∧ n ≠ s.orders.level := by
  rw [mem_newPostings]
  constructor
  · rintro (⟨y, hc⟩ | ⟨h, hchange⟩)
    · rcases mem_targetPostings.mp hc with ⟨⟨⟩, -⟩ | ⟨⟨⟩, -⟩ | ⟨⟨⟩, -⟩
    · cases h
      exact ⟨rfl, hchange⟩
  · rintro ⟨rfl, hchange⟩
    exact .inr ⟨rfl, hchange⟩

end

/-! ### Effects (R60 to R62) -/

theorem reachedBy_iff {zs : ZoneSet} {scr : Bool} {o : OrderRec} :
    reachedBy zs scr o = true ↔
      if o.kind = .screen then scr = true else ∃ z, hasZone zs z = true ∧ hasZone o.zones z = true := by
  unfold reachedBy
  split
  · rfl
  · rw [zones_meet_iff]
    exact exists_congr fun z => and_comm

/-- What an order wins a zone by: a HOLD or VENT order by the zone's origin, a CAP order by its value. -/
theorem winsZone_iff {t : Target} {k : SlotId} {o : OrderRec} (h : o.kind = .cap → 0 ≤ o.value) :
    winsZone t k o = true ↔
      (o.kind = .hold → t.holdOrigin = .slot k) ∧ (o.kind = .vent → t.fanOrigin = some k) ∧
        (o.kind = .cap → (t.cap : Int) = o.value) := by
  cases hk : o.kind with
  | cap =>
    have := h hk
    simp only [winsZone, hk, decide_eq_true_eq, reduceCtorEq, false_imp_iff, true_and, forall_const]
    omega
  | _ => simp [winsZone, hk]

theorem effectOf_not_takesPart {targets : Vector Target 8} {level : Nat} {k : SlotId} {o : OrderRec} {l : OrderLive}
    (h : l.state = .waiting ∨ l.state = .resting) : effectOf targets level k o l = .none := by
  rcases h with h | h <;> simp [effectOf, takesPart, h]

/-- The effect of a SCREEN order: FULL at the level, else NONE. -/
theorem effectOf_screen {targets : Vector Target 8} {level : Nat} {k : SlotId} {o : OrderRec} {l : OrderLive}
    (hl : l.state = .inForce ∨ l.state = .tailing) (hk : o.kind = .screen) (hv : 0 ≤ o.value) :
    (effectOf targets level k o l = .full ↔ o.value = level) ∧ effectOf targets level k o l ≠ .partly := by
  have hlevel : o.value.toNat = level ↔ o.value = level := by omega
  rw [effectOf, if_pos ((takesPart_iff l).mpr hl), if_pos hk]
  split
  · next h => simp [hlevel.mp h]
  · next h => simp [mt hlevel.mpr h]

/-- The effect of an order that bears zones: FULL where it wins all its zones, NONE where it wins none. -/
theorem effectOf_zones (targets : Vector Target 8) (level : Nat) (k : SlotId) {o : OrderRec} {l : OrderLive}
    (hl : l.state = .inForce ∨ l.state = .tailing) (hk : o.kind ≠ .screen) (hz : ∃ z, hasZone o.zones z = true) :
    (effectOf targets level k o l = .full ↔
      ∀ z, hasZone o.zones z = true → winsZone (Tab.get targets z) k o = true) ∧
    (effectOf targets level k o l = .none ↔
      ∀ z, hasZone o.zones z = true → ¬winsZone (Tab.get targets z) k o = true) := by
  rw [effectOf, if_pos ((takesPart_iff l).mpr hl), if_neg hk]
  simp only [List.all_eq_true, List.any_eq_true, mem_zonesOf]
  obtain ⟨z, hz⟩ := hz
  split
  · next hall => exact ⟨by simpa using hall, by simpa using ⟨z, hz, hall z hz⟩⟩
  · next hall =>
    split
    · next hany => exact ⟨by simpa using hall, by simpa using hany⟩
    · next hany => exact ⟨by simpa using hall, by simpa using hany⟩

/-- Settles O24: targets, level and frame by the definition of a resolution, the postings by membership, the effects by
whether the order is reached, takes part and bears zones. -/
theorem resolutionRecomputesTargetsAndEffects : Obligations.ResolutionRecomputesTargetsAndEffects := by
  refine ⟨fun s o => ⟨fun hk => ?_, fun hk => ?_⟩, fun s zs scr => ⟨resolve_target s zs scr, resolve_level s zs scr,
    resolve_frame s zs scr, newPostings s zs scr, resolve_posts s zs scr, ?_, ?_, ?_, ?_, ?_⟩,
    fun s zs scr k e he hvalue => ?_⟩
  · rw [resolveOrder_eq, decide_eq_true hk]
  · rw [resolveOrder_eq, decide_eq_false hk]
  · exact fun z => zoneInactive_mem_newPostings
  · exact fun z c => capLowered_mem_newPostings
  · exact fun z ts => zoneTarget_mem_newPostings
  · exact fun n => screenLevel_mem_newPostings
  · intro c hc
    rcases mem_newPostings.mp hc with ⟨z, hc⟩ | ⟨rfl, -⟩
    · rcases mem_targetPostings.mp hc with ⟨rfl, -⟩ | ⟨rfl, -⟩ | ⟨rfl, -⟩
      · exact .inl ⟨z, rfl⟩
      · exact .inr (.inl ⟨z, _, rfl⟩)
      · exact .inr (.inr (.inl ⟨z, _, rfl⟩))
    · exact .inr (.inr (.inr ⟨_, rfl⟩))
  · intro t o reached won
    have hcap : o.kind = .cap → 0 ≤ o.value := fun hk => hvalue.resolve_right fun h => h.1 hk
    have hlevel : o.kind = .screen → 0 ≤ o.value := fun hk => hvalue.resolve_right fun h => h.2 hk
    have hreached : reachedBy zs scr o = true ↔ reached := reachedBy_iff
    by_cases hr : reachedBy zs scr o = true
    · refine ⟨_, resolve_slot_of_reached s zs scr he hr, fun h => absurd (hreached.mp hr) h, fun hzone =>
        ⟨effectOf_not_takesPart, fun hl => ⟨fun hk => effectOf_screen hl hk (hlevel hk), fun hk => ?_⟩⟩⟩
      obtain ⟨z, -, hz⟩ : ∃ z, hasZone zs z = true ∧ hasZone o.zones z = true := by
        simpa only [reached, if_neg hk] using hzone
      have hwon : ∀ z, winsZone (Tab.get t.orders.targets z) k o = true ↔ won z := fun z => winsZone_iff hcap
      simpa only [hwon] using effectOf_zones t.orders.targets t.orders.level k hl hk ⟨z, hz⟩
    · refine ⟨e.live.effect, ?_, fun _ => rfl, fun h => absurd (hreached.mpr h) hr⟩
      rw [resolve_slot_of_not_reached s zs scr he (by simpa using hr), ← he]

/-! ### POWER_ON (R66, R104, R138) -/

theorem exec_powerOn (s : State) : exec .powerOn s = .next s.poweredOn := rfl

/-- Settles O56: the blocks that follow the pins are written out as POWER_ON gives them; what `State.reset` holds is
evaluated. -/
theorem powerOnSetsEveryBlock : Obligations.PowerOnSetsEveryBlock := by
  have hdoor : ∀ d, State.reset.door d = Door.reset := by decide
  have hdebounce : ∀ d, (State.reset.doorRec d).debounce = 200 := by decide
  have hslots : SlotsSound State.reset := by decide
  have horders : OrdersInRange State.reset := by decide
  have hregs : RegulatorsSound State.reset := by decide
  have hcabin : CabinMapSound State.reset := by decide
  refine ⟨⟨fun s => ?_, by decide⟩, hslots, by decide, horders, by decide, by decide, by decide, hregs, by decide,
    by decide, by decide, by decide, hcabin, by decide, hcabin, hslots, horders, hregs, by decide⟩
  simp only [exec_powerOn, State.poweredOn, Door.poweredOn, hdoor, hdebounce]
  rfl

end Sys2Proof.Machine.Resolution

/-! PROOFS. The Sensor Scanner (chapter 04): the readings that feed a derived quantity, what each event at a channel
recomputes and posts, how an arrival is judged, SENSE, the converter's passes and the timers of a channel. -/

namespace Sys2Proof.Machine.Sensors

/-! ### Lists of channels -/

/-- Keeping the mapped elements of those accepted is filtering, then mapping. -/
theorem filterMap_ite_eq_map_filter {α β : Type} (l : List α) (p : α → Prop) [DecidablePred p] (f : α → β) :
    (l.filterMap fun x => if p x then some (f x) else none) = (l.filter fun x => decide (p x)).map f := by
  induction l with
  | nil => rfl
  | cons a as ih => by_cases h : p a <;> simp [h, ih]

/-- The number of elements accepted is a sum of ones. -/
theorem length_filter_eq_sum {α : Type} (l : List α) (p : α → Bool) :
    ((l.filter p).length : Int) = (l.map fun x => if p x then 1 else 0).sum := by
  induction l with
  | nil => rfl
  | cons a as ih =>
    rw [List.map_cons, List.sum_cons, ← ih]
    by_cases h : p a = true
    · rw [List.filter_cons_of_pos h, if_pos h, List.length_cons]
      omega
    · rw [List.filter_cons_of_neg h, if_neg h]
      omega

/-- The sum over the elements accepted counts the others as 0. -/
theorem sum_map_filter_eq {α : Type} (l : List α) (p : α → Bool) (f : α → Int) :
    ((l.filter p).map f).sum = (l.map fun x => if p x then f x else 0).sum := by
  induction l with
  | nil => rfl
  | cons a as ih =>
    rw [List.map_cons, List.sum_cons, ← ih]
    by_cases h : p a = true
    · rw [List.filter_cons_of_pos h, if_pos h, List.map_cons, List.sum_cons]
    · rw [List.filter_cons_of_neg h, if_neg h, Int.zero_add]

/-- The only number accepted is the one found. -/
theorem find?_finRange_of_unique {n : Nat} {p : Fin n → Bool} {k : Fin n} (hk : p k = true)
    (hunique : ∀ j, p j = true → j = k) : (List.finRange n).find? p = some k := by
  cases h : (List.finRange n).find? p with
  | none => exact absurd hk (List.find?_eq_none.mp h k (List.mem_finRange k))
  | some j => rw [hunique j (List.find?_some h)]

/-! ### The readings of a role (R76 to R78) -/

/-- Channel `k` feeds the quantity derived from role `r`: it has the role, and is VALID or SUSPECT. -/
def feeds (s : State) (r : Role) (k : SensorId) : Bool :=
  decide ((s.sensorRec k).role = r) && decide ((s.sensor k).state ≠ .lost)

theorem feeds_iff {s : State} {r : Role} {k : SensorId} :
    feeds s r k = true ↔ (s.sensorRec k).role = r ∧ (s.sensor k).state ≠ .lost := by
  simp [feeds]

theorem readingsOf_eq (s : State) (r : Role) :
    s.readingsOf r = ((List.finRange 32).filter (feeds s r)).map fun k => (s.sensor k).last := by
  simp only [State.readingsOf, filterMap_ite_eq_map_filter, Bool.decide_and]
  rfl

theorem mem_readingsOf {s : State} {r : Role} {v : Int} :
    v ∈ s.readingsOf r ↔ ∃ k, ((s.sensorRec k).role = r ∧ (s.sensor k).state ≠ .lost) ∧ (s.sensor k).last = v := by
  simp only [readingsOf_eq, List.mem_map, List.mem_filter, List.mem_finRange, true_and, feeds_iff]

theorem readingsOf_eq_nil_iff {s : State} {r : Role} :
    s.readingsOf r = [] ↔ ∀ k, ¬((s.sensorRec k).role = r ∧ (s.sensor k).state ≠ .lost) := by
  simp only [readingsOf_eq, List.map_eq_nil_iff, List.filter_eq_nil_iff, List.mem_finRange, forall_const, feeds_iff]

/-- The number of readings is a sum of ones over the channels that feed the role. -/
theorem length_readingsOf (s : State) (r : Role) :
    ((s.readingsOf r).length : Int) = ((List.finRange 32).map fun k => if feeds s r k then 1 else 0).sum := by
  rw [readingsOf_eq, List.length_map, length_filter_eq_sum]

/-- The readings add up to the last values of the channels that feed the role. -/
theorem sum_readingsOf (s : State) (r : Role) :
    (s.readingsOf r).sum = ((List.finRange 32).map fun k => if feeds s r k then (s.sensor k).last else 0).sum := by
  rw [readingsOf_eq, sum_map_filter_eq]

/-- The first reading of a role that one channel alone has is that channel's last value. -/
theorem head?_readingsOf_of_alone {s : State} {r : Role} (k : SensorId) (hk : (s.sensorRec k).role = r)
    (hlive : (s.sensor k).state ≠ .lost) (halone : ∀ j, (s.sensorRec j).role = (s.sensorRec k).role → j = k) :
    (s.readingsOf r).head? = some (s.sensor k).last := by
  have hfound : (List.finRange 32).find? (feeds s r) = some k :=
    find?_finRange_of_unique (feeds_iff.mpr ⟨hk, hlive⟩) fun j hj => halone j ((feeds_iff.mp hj).1.trans hk.symm)
  rw [readingsOf_eq, List.head?_map, List.head?_filter, hfound]
  rfl

theorem head?_readingsOf_of_lost {s : State} {r : Role}
    (h : ∀ k, (s.sensorRec k).role = r → (s.sensor k).state = .lost) : (s.readingsOf r).head? = none := by
  rw [List.head?_eq_none_iff, readingsOf_eq_nil_iff]
  exact fun k hk => hk.2 (h k hk.1)

/-! ### The derived quantities (R76 to R79) -/

theorem ta_of_nil {s : State} {z : ZoneId} (h : s.readingsOf (.zoneAir z) = []) : s.ta z = none := by
  simp [State.ta, h]

/-- Ta is the sum of the readings divided by their number, rounded toward zero (R76). -/
theorem ta_of_ne_nil {s : State} {z : ZoneId} (h : s.readingsOf (.zoneAir z) ≠ []) :
    s.ta z = some ((s.readingsOf (.zoneAir z)).sum.tdiv (s.readingsOf (.zoneAir z)).length) := by
  obtain ⟨v, vs, hl⟩ := List.exists_cons_of_ne_nil h
  have hsum := foldl_add_eq_sum_int vs id v
  simp only [id_eq, List.map_id] at hsum
  simp only [State.ta, hl, hsum, List.sum_cons, List.length_cons]

theorem airValid_iff {s : State} {z : ZoneId} :
    s.airValid z = true ↔ ∃ k, (s.sensorRec k).role = .zoneAir z ∧ (s.sensor k).state = .valid := by
  simp [State.airValid]

theorem surfaceSensor_eq_none {s : State} {c : ChanId} (h : ∀ k, (s.sensorRec k).role ≠ .surface c) :
    s.surfaceSensor c = none := by
  simpa [State.surfaceSensor] using h

theorem surfaceSensor_eq_some {s : State} {c : ChanId} {k : SensorId} (hk : (s.sensorRec k).role = .surface c)
    (hunique : ∀ j, (s.sensorRec j).role = .surface c → j = k) : s.surfaceSensor c = some k :=
  find?_finRange_of_unique (decide_eq_true hk) fun j hj => hunique j (of_decide_eq_true hj)

theorem surfaceState_of_none {s : State} {c : ChanId} (h : s.surfaceSensor c = none) :
    s.surfaceState c = .noSensor := by
  simp [State.surfaceState, h]

theorem surfaceState_of_some {s : State} {c : ChanId} {k : SensorId} (h : s.surfaceSensor c = some k) :
    s.surfaceState c = if (s.sensor k).state = .lost then .lost else .reading (s.sensor k).last := by
  simp [State.surfaceState, h]

/-- At power-on every sensor channel is UNUSED (R12), so no role but UNUSED has a reading. -/
theorem reset_role (k : SensorId) : (State.reset.sensorRec k).role = .unused := by
  simp [State.sensorRec, State.reset, CabinMap.reset, SensorRec.reset, Tab.get]

theorem reset_readingsOf {r : Role} (h : r ≠ .unused) : State.reset.readingsOf r = [] :=
  readingsOf_eq_nil_iff.mpr fun k hk => h (hk.1.symm.trans (reset_role k))

/-! ### The outside temperature (R77) -/

/-- The outside reading is the least of the readings, if there is one. -/
theorem outsideReading_eq_min? (s : State) : s.outsideReading = (s.readingsOf .outside).min? := by
  unfold State.outsideReading
  cases s.readingsOf .outside <;> rfl

theorem withTo_of_none {s : State} (h : s.outsideReading = none) :
    s.withTo = { s with scan := { s.scan with stale := true } } := by
  simp [State.withTo, h]

theorem withTo_of_some {s : State} {v : Int} (h : s.outsideReading = some v) :
    s.withTo = { s with scan := { s.scan with tOut := v, stale := false } } := by
  simp [State.withTo, h]

/-- Recomputing To changes To and its stale flag alone. -/
theorem withTo_frame (s : State) :
    s.withTo = { s with scan := { s.scan with tOut := s.withTo.scan.tOut, stale := s.withTo.scan.stale } } := by
  cases h : s.outsideReading with
  | none => simp [withTo_of_none h]
  | some v => simp [withTo_of_some h]

/-- Without an OUTSIDE channel to read, To keeps its value and is stale. -/
theorem withTo_stale {s : State} (h : ∀ k, ¬((s.sensorRec k).role = .outside ∧ (s.sensor k).state ≠ .lost)) :
    s.withTo.scan.tOut = s.scan.tOut ∧ s.withTo.scan.stale = true := by
  have hnone : s.outsideReading = none := by
    rw [outsideReading_eq_min?, List.min?_eq_none_iff, readingsOf_eq_nil_iff]
    exact h
  rw [withTo_of_none hnone]
  exact ⟨rfl, rfl⟩

/-- With one, To is fresh, and the least of the values read. -/
theorem withTo_fresh {s : State} (h : ∃ k, (s.sensorRec k).role = .outside ∧ (s.sensor k).state ≠ .lost) :
    s.withTo.scan.stale = false ∧
      (∃ k, ((s.sensorRec k).role = .outside ∧ (s.sensor k).state ≠ .lost) ∧ s.withTo.scan.tOut = (s.sensor k).last) ∧
      ∀ k, (s.sensorRec k).role = .outside ∧ (s.sensor k).state ≠ .lost → s.withTo.scan.tOut ≤ (s.sensor k).last := by
  cases hread : s.outsideReading with
  | none =>
    obtain ⟨k, hk⟩ := h
    rw [outsideReading_eq_min?, List.min?_eq_none_iff, readingsOf_eq_nil_iff] at hread
    exact absurd hk (hread k)
  | some v =>
    rw [withTo_of_some hread]
    rw [outsideReading_eq_min?, List.min?_eq_some_iff] at hread
    obtain ⟨hmem, hleast⟩ := hread
    obtain ⟨k, hk, hv⟩ := mem_readingsOf.mp hmem
    exact ⟨rfl, ⟨k, hk, hv.symm⟩, fun j hj => hleast _ (mem_readingsOf.mpr ⟨j, hj, rfl⟩)⟩

/-! ### The postings of an event (R80) -/

theorem watched_iff (r : Role) :
    r.watched = true ↔ r = .outside ∨ r = .zoneAir 0 ∨ r = .glass ∨ r = .cabHumidity := by
  cases r <;> simp [Role.watched]

theorem any_watched_iff (roles : List Role) :
    roles.any Role.watched = true ↔
      Role.outside ∈ roles ∨ Role.zoneAir 0 ∈ roles ∨ Role.glass ∈ roles ∨ Role.cabHumidity ∈ roles := by
  simp only [List.any_eq_true, watched_iff, and_or_left, exists_or, exists_eq_right]

/-- A zone's air validity is posted where it changed, in zone order. -/
theorem airValidityPostings_eq (s old : State) :
    ((List.finRange 8).filterMap fun z =>
      if s.airValid z = old.airValid z then none
      else some (Instr.conditionPosting (.airValidity z (s.airValid z)))) =
    ((List.finRange 8).filter fun z => decide (s.airValid z ≠ old.airValid z)).map fun z =>
      .conditionPosting (.airValidity z (s.airValid z)) := by
  simp only [← filterMap_ite_eq_map_filter, ne_eq, ite_not]

/-- What an event posts is read from fields that the posting itself leaves as they are. -/
theorem scanPostings_post (old s : State) (l : List Instr) (roles : List Role) :
    State.scanPostings old (s.post l) roles = State.scanPostings old s roles := rfl

theorem derived_posts (u s : State) (roles : List Role) :
    (u.derived s roles).posts = u.posts ++ State.scanPostings s (u.derived s roles) roles := by
  have hposts : u.withTo.posts = u.posts := by rw [withTo_frame]
  simp only [State.derived, State.post_posts, scanPostings_post, hposts]

theorem derived_scan (u s : State) (roles : List Role) : (u.derived s roles).scan = u.withTo.scan := rfl

/-- An event changes To, its stale flag and the waiting postings alone. -/
theorem derived_frame (u s : State) (roles : List Role) :
    u.derived s roles = { u with
      posts := (u.derived s roles).posts
      scan := { u.scan with tOut := (u.derived s roles).scan.tOut, stale := (u.derived s roles).scan.stale } } := by
  rw [derived_posts]
  exact congrArg (State.post · (State.scanPostings s u.withTo roles)) (withTo_frame u)

/-- Settles O26: the derived quantities from the readings of a role, then an event's changes and its postings. -/
theorem sensorEventsRecomputeAndPost : Obligations.SensorEventsRecomputeAndPost := by
  refine ⟨⟨fun s z => ⟨fun hnone => ?unknown, fun hsome => ?mean, airValid_iff⟩,
    fun s c => ⟨fun hno => surfaceState_of_none (surfaceSensor_eq_none hno),
      fun k hk hunique => surfaceState_of_some (surfaceSensor_eq_some hk hunique)⟩,
    fun s => ⟨head?_readingsOf_of_lost, head?_readingsOf_of_alone, head?_readingsOf_of_lost, head?_readingsOf_of_alone⟩,
    fun z => ?powerOnAir, fun c => ?powerOnSurface, ?powerOnGlass, ?powerOnHumidity⟩,
    fun _ _ _ => rfl, fun u s roles => ⟨derived_frame u s roles, withTo_stale, withTo_fresh, ?posts⟩⟩
  case unknown =>
    have hlength := (length_readingsOf s (.zoneAir z)).trans hnone
    exact ta_of_nil (List.length_eq_zero_iff.mp (Int.natCast_eq_zero.mp hlength))
  case mean =>
    have hlength := Int.lt_of_lt_of_le hsome (Int.le_of_eq (length_readingsOf s (.zoneAir z)).symm)
    have hne : s.readingsOf (.zoneAir z) ≠ [] := List.length_pos_iff.mp (Int.natCast_pos.mp hlength)
    rw [ta_of_ne_nil hne, length_readingsOf, sum_readingsOf]
    rfl
  case powerOnAir => exact ⟨ta_of_nil (reset_readingsOf (by simp)), by simp [State.airValid, reset_role]⟩
  case powerOnSurface => exact surfaceState_of_none (surfaceSensor_eq_none fun k => by simp [reset_role])
  case powerOnGlass => simp [State.glass, reset_readingsOf]
  case powerOnHumidity => simp [State.humidity, reset_readingsOf]
  case posts =>
    rw [derived_posts, State.scanPostings]
    simp only [airValidityPostings_eq, any_watched_iff, ← List.append_assoc]
    rfl

/-! ### Judging an arrival (R72 to R74) -/

theorem inRange_iff (r : Role) (v : Int) :
    r.inRange v = true ↔
      match r with
      | .zoneAir _ | .outside | .glass => -500 ≤ v ∧ v ≤ 850
      | .surface _ | .lineUnused => -500 ≤ v ∧ v ≤ 2000
      | .cabHumidity => 0 ≤ v ∧ v ≤ 1000
      | .unused => False := by
  cases r <;> simp [Role.inRange]

theorem valid_of_valid {l : SensorLive} (run : Nat) (v : Int) (h : l.state = .valid) :
    l.valid run v = { l with count := min 8 (l.count + 1), last := v } := by
  simp [SensorLive.valid, h]

/-- Short of the return run a valid arrival is counted only (R73). -/
theorem valid_of_short_run {l : SensorLive} {run : Nat} (v : Int) (h : l.state ≠ .valid)
    (hrun : min 8 (l.count + 1) < run) : l.valid run v = { l with count := min 8 (l.count + 1) } := by
  simp only [SensorLive.valid, if_neg h, if_neg (Nat.not_le.mpr hrun)]

/-- From the return run on the channel is VALID and takes the reading (R73). -/
theorem valid_of_return {l : SensorLive} {run : Nat} (v : Int) (h : l.state ≠ .valid)
    (hrun : run ≤ min 8 (l.count + 1)) :
    l.valid run v = { l with state := .valid, count := min 8 (l.count + 1), last := v, holdTimer := none } := by
  simp only [SensorLive.valid, if_neg h, if_pos hrun]

theorem outOfRange_of_valid {l : SensorLive} (hold : Timer) (h : l.state = .valid) :
    l.outOfRange hold = { l with state := .suspect, count := 0, holdTimer := hold } := if_pos h

theorem outOfRange_of_not_valid {l : SensorLive} (hold : Timer) (h : l.state ≠ .valid) :
    l.outOfRange hold = { l with count := 0 } := if_neg h

theorem judged_of_inRange {s : State} {k : SensorId} {v : Int} (h : (s.sensorRec k).role.inRange v = true) :
    s.judged k v = (s.sensor k).valid (s.sensorRec k).run v := if_pos h

theorem judged_of_not_inRange {s : State} {k : SensorId} {v : Int} (h : ¬(s.sensorRec k).role.inRange v = true) :
    s.judged k v = (s.sensor k).outOfRange (s.startSec (s.sensorRec k).hold) := if_neg h

theorem startSec_eq (s : State) (sec : Nat) : s.startSec sec = some (s.now + 1000 * sec) := by
  rw [State.startSec, Nat.mul_comm]
  rfl

/-! ### SENSE (R70) -/

theorem exec_sense (h : Header) (n : Byte) (v : Word) (s : State) :
    exec (.sense h n v) s = .next (s.frame 0x33 h [n, v.hi, v.lo] notDriver fun t => t.sense n v) := rfl

/-- A channel's state as its word in a reply (R185). -/
theorem wordOf_sensorPos (x : SensorState) :
    wordOf x.pos = match x with | .valid => 0 | .suspect => 1 | .lost => 2 := by
  cases x <;> rfl

theorem sense_of_no_channel (s : State) {n : Byte} (v : Word) (h : objectOf 32 n = none) :
    s.sense n v = s.refuse .badField := by
  simp [State.sense, h]

theorem sense_of_external {s : State} {n : Byte} {k : SensorId} (v : Word) (h : objectOf 32 n = some k)
    (hk : (s.sensorRec k).origin = .external ∧ (s.sensorRec k).role ≠ .unused) :
    s.sense n v =
      { state := s.sensorEvent k { s.judged k v.toInt with refreshTimer := some (s.now + 10000) }
        status := .done
        payload := bytesOfWords [wordOf (s.judged k v.toInt).state.pos, wordOf (s.judged k v.toInt).last] } := by
  simp only [State.sense, h, if_pos hk]
  rfl

theorem sense_of_not_external {s : State} {n : Byte} {k : SensorId} (v : Word) (h : objectOf 32 n = some k)
    (hk : ¬((s.sensorRec k).origin = .external ∧ (s.sensorRec k).role ≠ .unused)) :
    s.sense n v = s.refuse .wrongState := by
  simp only [State.sense, h, if_neg hk]

/-- Settles O25: an arrival by range, state and return run; SENSE check by check. -/
theorem arrivalsAreJudgedAndSensed : Obligations.ArrivalsAreJudgedAndSensed := by
  refine ⟨fun s k v => ?_, fun h n v s => ⟨fun hdriver => ?_, fun hother hn => ?_, fun hother k hk => ?_⟩⟩
  · intro l r n valid
    have hvalid : valid ↔ r.role.inRange v = true := (inRange_iff r.role v).symm
    rw [hvalid, ← startSec_eq]
    refine ⟨fun hr hl => ?_, fun hr hl hrun => ?_, fun hr hl hrun => ?_, fun hr hl => ?_, fun hr hl => ?_⟩
    · rw [judged_of_inRange hr, valid_of_valid _ v hl]
    · rw [judged_of_inRange hr, valid_of_short_run v hl hrun]
    · rw [judged_of_inRange hr, valid_of_return v hl hrun]
    · rw [judged_of_not_inRange hr, outOfRange_of_valid _ hl]
    · rw [judged_of_not_inRange hr, outOfRange_of_not_valid _ hl]
  · rw [exec_sense, State.frame_denied _ (by simp [hdriver, notDriver])]
  · rw [exec_sense, State.frame_taken _ ((notDriver_iff _).mpr hother),
      sense_of_no_channel _ v (objectOf_eq_none.mpr hn)]
    rfl
  · have hobject : objectOf 32 n = some k := objectOf_eq_some.mpr hk
    rw [exec_sense, State.frame_taken _ ((notDriver_iff _).mpr hother)]
    intro l
    split
    · next hexternal =>
      rw [sense_of_external (s := s.taken 0x33 h [n, v.hi, v.lo]) v hobject hexternal]
      exact congrArg (fun w : Word => Host.Outcome.next
        (((s.taken 0x33 h [n, v.hi, v.lo]).sensorEvent k l).reply 0x33 .done (bytesOfWords [w, wordOf l.last])))
        (wordOf_sensorPos l.state)
    · next hexternal =>
      rw [sense_of_not_external (s := s.taken 0x33 h [n, v.hi, v.lo]) v hobject hexternal]
      rfl

/-! ### The converter's passes (R68, R69) -/

theorem passList_descending (s : State) : s.passList.Pairwise fun j k => k < j :=
  List.pairwise_reverse.mpr ((List.pairwise_lt_finRange 32).filter _)

theorem mem_passList {s : State} {k : SensorId} :
    k ∈ s.passList ↔ (s.sensorRec k).origin = .internal ∧ (s.sensorRec k).role ≠ .unused := by
  simp [State.passList]

theorem exec_scanExpiry (s : State) :
    exec .scanExpiry s = .next (s.onExpiry s.scan.scanTimer fun t =>
      if t.scan.pass = [] then t.startPass
      else { t with scan := { t.scan with scanTimer := none, recorded := true } }) := rfl

theorem exec_conversionArrival (k : SensorId) (v : Int) (s : State) :
    exec (.conversionArrival k v) s = execConversionArrival k v s := rfl

/-- A channel that is not the next one of the pass gives no arrival (assumption 3). -/
theorem exec_conversionArrival_of_other {s : State} {k : SensorId} (v : Int) (h : s.scan.pass.head? ≠ some k) :
    exec (.conversionArrival k v) s = .next s := by
  rw [exec_conversionArrival, execConversionArrival]
  split
  · rfl
  · next k' rest hpass =>
    have hne : k' ≠ k := by simpa [hpass] using h
    rw [if_neg hne]

/-- The state once the pass has taken channel `k` and its reading has been judged. -/
def converted (s : State) (k : SensorId) (v : Int) (rest : List SensorId) : State :=
  State.sensorEvent
    { s with pins := { s.pins with ain := Tab.put s.pins.ain k v }, scan := { s.scan with pass := rest } } k (s.judged k v)

theorem exec_conversionArrival_of_next {s : State} {k : SensorId} (v : Int) {rest : List SensorId}
    (h : s.scan.pass = k :: rest) : exec (.conversionArrival k v) s = .next (converted s k v rest).passDone := by
  simp only [exec_conversionArrival, execConversionArrival, h, if_true]
  rfl

/-- An event at a channel leaves the converter's pass and its recorded expiry. -/
theorem sensorEvent_pass (s : State) (k : SensorId) (l : SensorLive) :
    (s.sensorEvent k l).scan.pass = s.scan.pass ∧ (s.sensorEvent k l).scan.recorded = s.scan.recorded := by
  rw [State.sensorEvent, derived_frame]
  exact ⟨rfl, rfl⟩

theorem passDone_converted (s : State) (k : SensorId) (v : Int) (rest : List SensorId) :
    (converted s k v rest).passDone =
      if rest = [] ∧ s.scan.recorded = true then (converted s k v rest).startPass else converted s k v rest := by
  obtain ⟨hpass, hrecorded⟩ := sensorEvent_pass
    { s with pins := { s.pins with ain := Tab.put s.pins.ain k v }, scan := { s.scan with pass := rest } } k (s.judged k v)
  rw [State.passDone, converted, hpass, hrecorded]

/-! ### The timers of a channel and RESTART (R71, R75, R81) -/

theorem exec_refreshExpiry (k : SensorId) (s : State) :
    exec (.refreshExpiry k) s = .next (s.onExpiry (s.sensor k).refreshTimer fun t =>
      t.sensorEvent k
        { (t.sensor k).outOfRange (t.startSec (t.sensorRec k).hold) with refreshTimer := some (t.now + 10000) }) := rfl

/-- The live fields after an expiry of the refresh timer, by the channel's state (R71, R74). -/
theorem refreshed_eq (l : SensorLive) (hold refresh : Timer) :
    { l.outOfRange hold with refreshTimer := refresh } =
      if l.state = .valid then
        { l with state := .suspect, count := 0, holdTimer := hold, refreshTimer := refresh }
      else { l with count := 0, refreshTimer := refresh } := by
  split
  · next h => rw [outOfRange_of_valid _ h]
  · next h => rw [outOfRange_of_not_valid _ h]

theorem exec_sensorHoldExpiry (k : SensorId) (s : State) :
    exec (.sensorHoldExpiry k) s = .next (s.onExpiry (s.sensor k).holdTimer fun t =>
      (t.sensorEvent k { t.sensor k with state := .lost, holdTimer := none }).raise .sensorLost) := rfl

/-- An event at a channel leaves the Link Port. -/
theorem sensorEvent_link (s : State) (k : SensorId) (l : SensorLive) : (s.sensorEvent k l).link = s.link := by
  rw [State.sensorEvent, derived_frame]
  rfl

/-- Settles O27: passes and conversions, then the two timers of a channel and RESTART. -/
theorem passesAndSensorTimersRun : Obligations.PassesAndSensorTimersRun := by
  refine ⟨fun s => ⟨passList_descending s, fun k => mem_passList, fun hstopped => ?scanStopped, fun e hdue => ?scanDue,
    fun k v => ⟨exec_conversionArrival_of_other v, fun rest hpass => ?converts⟩⟩,
    fun k s => ⟨⟨⟨fun hstopped => ?refreshStopped, fun e hdue => ?refreshDue⟩,
      fun hstopped => ?holdStopped, fun e hdue => ?holdDue⟩, rfl⟩⟩
  case scanStopped => rw [exec_scanExpiry, hstopped, State.onExpiry_none]
  case scanDue =>
    rw [exec_scanExpiry, hdue, State.onExpiry_some]
    rfl
  case converts =>
    rw [exec_conversionArrival_of_next v hpass, passDone_converted]
    rfl
  case refreshStopped => rw [exec_refreshExpiry, hstopped, State.onExpiry_none]
  case refreshDue =>
    rw [exec_refreshExpiry, hdue, State.onExpiry_some, startSec_eq, refreshed_eq]
    rfl
  case holdStopped => rw [exec_sensorHoldExpiry, hstopped, State.onExpiry_none]
  case holdDue =>
    rw [exec_sensorHoldExpiry, hdue, State.onExpiry_some]
    intro t
    have hlink : t.link = s.link := sensorEvent_link _ k _
    rw [← hlink]
    rfl

end Sys2Proof.Machine.Sensors

/-! PROOFS. Zone regulation (chapter 05): the curve base, the record of an interval expiry, what a zone posts, grants
and Pinst, the changes between expiries, the section flaps and RESTART. -/

namespace Sys2Proof.Machine.Zones

/-! ### The curve base (R87) -/

theorem curveAt_eq_get (h : Vector Nat 16) (k : Fin 16) : curveAt h k.val = ((Tab.get h k : Nat) : Int) := by
  simp [curveAt, Tab.get]

theorem curveBase_below {h : Vector Nat 16} {tOut : Int} (hlow : tOut < -400) :
    curveBase h tOut = ((Tab.get h 0 : Nat) : Int) := by
  rw [curveBase, if_pos hlow]
  exact curveAt_eq_get h 0

theorem curveBase_above {h : Vector Nat 16} {tOut : Int} (hhigh : 350 ≤ tOut) :
    curveBase h tOut = ((Tab.get h 15 : Nat) : Int) := by
  rw [curveBase, if_neg (by omega), if_pos hhigh]
  exact curveAt_eq_get h 15

theorem curveBase_between {h : Vector Nat 16} {tOut : Int} (k : Fin 15) {f : Nat} (hf : f < 50)
    (hk : tOut = -400 + 50 * (k.val : Int) + f) :
    curveBase h tOut =
      ((Tab.get h k.castSucc : Nat) : Int) +
        ((((Tab.get h k.succ : Nat) : Int) - ((Tab.get h k.castSucc : Nat) : Int)) * f).tdiv 50 := by
  have hcovered : (tOut + 400).toNat = 50 * k.val + f := by omega
  have hentry : (50 * k.val + f) / 50 = k.val := by omega
  have hpart : (50 * k.val + f) % 50 = f := by omega
  have hlast := k.isLt
  rw [curveBase, if_neg (by omega), if_neg (by omega), ← curveAt_eq_get, ← curveAt_eq_get]
  simp only [hcovered, hentry, hpart, Fin.val_castSucc, Fin.val_succ]

/-! ### The record of an expiry (R83 to R95, R99, R100) -/

/-- The integrator is held while the demand is limited in the direction of the step (R86). -/
theorem integrated_eq (g : Regulator) (di : Int) :
    g.integrated di =
      if (0 < di ∧ (g.highBound = true ∨ g.shortfall = true)) ∨ (di < 0 ∧ g.limitedLow = true) then g.i
      else max (-1000) (min 1000 (g.i + di)) := by
  simp only [Regulator.integrated, Regulator.limitedHigh, Bool.or_eq_true, clamp]

/-- The request, the fan level and the fresh-air demand that follow from the demand (R93 to R95). -/
theorem outputs_eq (g : Regulator) :
    g.outputs = { g with
      request := (max g.u 0).toNat * g.pinst / 1000
      fan := if g.fanRead = 0 then 1 + g.u.natAbs * 6 / 1000 else g.fanRead
      fresh := if 0 ≤ g.u then g.freshRead else g.freshRead + (-g.u).toNat * (100 - g.freshRead) / 1000 } := by
  have hheat : (max g.u 0).toNat = g.u.toNat := by omega
  rw [hheat]
  rfl

theorem demandOf_bounds (cap : Nat) (raw : Int) :
    -(10 * (cap : Int)) ≤ demandOf cap raw ∧ demandOf cap raw ≤ 10 * (cap : Int) :=
  clamp_bounds (by omega) _

theorem computed_closedLoop {s : State} {z : ZoneId} {ts ta : Int} (hactive : (s.target z).activity = .active)
    (hts : (s.target z).ts = some ts) (hta : s.ta z = some ta) :
    s.computed z = (s.reg z).regulate (s.zoneInputs z) ts ta := by
  simp only [State.computed, hactive, hts, hta]

theorem computed_openLoop {s : State} {z : ZoneId} {ts : Int} (hactive : (s.target z).activity = .active)
    (hts : (s.target z).ts = some ts) (hta : s.ta z = none) :
    s.computed z = (s.reg z).openLoop (s.zoneInputs z) ts := by
  simp only [State.computed, hactive, hts, hta]

theorem computed_inactive {s : State} {z : ZoneId} (hinactive : (s.target z).activity = .inactive) :
    s.computed z = (s.reg z).rest (s.zoneRec z).minFresh := by
  simp only [State.computed, hinactive]

/-- A zone is regulated on a demand within the bounds, or at rest on 0. -/
theorem computed_u (s : State) (z : ZoneId) :
    (s.computed z).u = 0 ∨ ∃ raw, (s.computed z).u = demandOf (s.target z).cap raw := by
  unfold State.computed
  split
  · split
    · exact .inr ⟨_, rfl⟩
    · exact .inr ⟨_, rfl⟩
  · exact .inl rfl
  · exact .inl rfl

theorem computed_u_bounds (s : State) (z : ZoneId) :
    -(10 * ((s.target z).cap : Int)) ≤ (s.computed z).u ∧ (s.computed z).u ≤ 10 * ((s.target z).cap : Int) := by
  rcases computed_u s z with hzero | ⟨raw, hdemand⟩
  · omega
  · rw [hdemand]
    exact demandOf_bounds _ raw

/-- A zone at its interval expiry: the record computed, with the timer restarted. -/
def interval (s : State) (z : ZoneId) : State :=
  s.zoneTakes z { s.computed z with timer := some (s.now + 1000 * (s.zoneRec z).interval) }

theorem exec_intervalExpiry (z : ZoneId) (s : State) :
    exec (.intervalExpiry z) s = .next (s.onExpiry (s.reg z).timer fun t => interval t z) := by
  simp only [interval, ← Sensors.startSec_eq]
  rfl

theorem exec_intervalExpiry_of_stopped {z : ZoneId} {s : State} (h : (s.reg z).timer = none) :
    exec (.intervalExpiry z) s = .next s := by
  rw [exec_intervalExpiry, h, State.onExpiry_none]

theorem exec_intervalExpiry_of_due {z : ZoneId} {s : State} {e : Nat} (h : (s.reg z).timer = some e) :
    exec (.intervalExpiry z) s = .next (interval (s.atTime e) z) := by
  rw [exec_intervalExpiry, h, State.onExpiry_some]

/-- Settles O28: the curve base by To's place on the curve, the expiry by the zone's activity and Ta. -/
theorem intervalComputesTheDemand : Obligations.IntervalComputesTheDemand := by
  refine ⟨fun h tOut => ⟨curveBase_below, curveBase_above, fun k f => curveBase_between k⟩,
    fun z s => ⟨exec_intervalExpiry_of_stopped, fun e htimer => ?_⟩⟩
  rw [exec_intervalExpiry_of_due htimer]
  refine ⟨fun hactive ts hts => ⟨fun hta => ?openLoop, fun ta hta => ?closedLoop⟩, fun hinactive => ?inactive,
    fun t' ht' => ?bounds⟩
  case openLoop =>
    rw [interval, computed_openLoop (s := s.atTime e) hactive hts hta, Regulator.openLoop, outputs_eq]
    rfl
  case closedLoop =>
    rw [interval, computed_closedLoop (s := s.atTime e) hactive hts hta, Regulator.regulate, outputs_eq, integrated_eq]
    rfl
  case inactive =>
    rw [interval, computed_inactive (s := s.atTime e) hinactive]
    rfl
  case bounds =>
    obtain rfl : interval (s.atTime e) z = t' := Host.Outcome.next.inj ht'
    rw [interval, State.zoneTakes_reg]
    exact computed_u_bounds (s.atTime e) z

/-! ### What a zone posts (R83, R93, R95, R97) -/

theorem mem_convectors {s : State} {z : ZoneId} {c : ChanId} :
    c ∈ s.convectors z ↔ (s.chanRec c).type = .convector z := by
  simp [State.convectors]

theorem mem_dutyPostings {s : State} {z : ZoneId} {duty : Nat} {i : Instr} :
    i ∈ s.dutyPostings z duty ↔ ∃ c, (s.chanRec c).type = .convector z ∧ i = .dutyPosting c ⟨.zone z, duty⟩ := by
  simp only [State.dutyPostings, List.mem_map, mem_convectors, eq_comm]

/-- A zone posts a figure that differs from the one last posted, and zone 0 its fan level and fresh air each time. -/
theorem mem_zonePostings {s : State} {z : ZoneId} {old new : Regulator} {i : Instr} :
    i ∈ s.zonePostings z old new ↔
      (new.request ≠ old.request ∧ i = .lineRequestPosting (.zone z) new.request) ∨
      (new.duty ≠ old.duty ∧ ∃ c, (s.chanRec c).type = .convector z ∧ i = .dutyPosting c ⟨.zone z, new.duty⟩) ∨
      (new.fresh ≠ old.fresh ∧ i = .freshAirPosting z new.fresh) ∨
      (z = 0 ∧ i = .zone0Posting new.fan new.fresh) := by
  simp only [State.zonePostings, List.mem_append, List.mem_ite_nil_left, List.mem_ite_nil_right, List.mem_singleton,
    mem_dutyPostings, ne_eq, or_assoc]

theorem zoneTakes_reg_ne (s : State) {z y : ZoneId} (x : Regulator) (h : y ≠ z) :
    (s.zoneTakes z x).reg y = s.reg y :=
  State.setReg_reg_ne s z y x h.symm

/-! ### Pinst and the duty (R91, R97, R178) -/

theorem bankOut_eq_false_iff {s : State} {c : ChanId} :
    s.bankOut c = false ↔ ∀ b, bankOf c = some b → (s.bank b).state ≠ .fault ∧ (s.bank b).state ≠ .locked := by
  unfold State.bankOut
  cases bankOf c <;> simp

theorem available_iff {s : State} {c : ChanId} :
    s.available c = true ↔ (s.chanRec c).enabled = true ∧ (s.chan c).surface ≠ .lost ∧
      ∀ b, bankOf c = some b → (s.bank b).state ≠ .fault ∧ (s.bank b).state ≠ .locked := by
  simp [State.available, State.disabled, bankOut_eq_false_iff, and_assoc]

/-- The sum over the elements accepted counts the others as 0. -/
theorem sum_map_filter_eq {α : Type} (l : List α) (p : α → Bool) (f : α → Nat) :
    ((l.filter p).map f).sum = (l.map fun x => if p x = true then f x else 0).sum := by
  induction l with
  | nil => rfl
  | cons a as ih =>
    rw [List.map_cons, List.sum_cons, ← ih]
    by_cases h : p a = true
    · rw [List.filter_cons_of_pos h, if_pos h, List.map_cons, List.sum_cons]
    · rw [List.filter_cons_of_neg h, if_neg h, Nat.zero_add]

/-- Pinst is the rated power of the zone's available convectors, the other channels counted as 0. -/
theorem pinstNow_eq (s : State) (z : ZoneId) :
    s.pinstNow z = ((List.finRange 36).map fun c =>
      if (s.chanRec c).type = .convector z ∧ (s.chanRec c).enabled = true ∧ (s.chan c).surface ≠ .lost ∧
        (∀ b, bankOf c = some b → (s.bank b).state ≠ .fault ∧ (s.bank b).state ≠ .locked)
      then (s.chanRec c).rated else 0).sum := by
  rw [State.pinstNow, State.convectors, foldl_add_eq_sum, List.filter_filter, Nat.zero_add, sum_map_filter_eq]
  simp only [← available_iff, Bool.and_eq_true, decide_eq_true_eq, and_comm]

theorem dutyNow_eq (g : Regulator) :
    g.dutyNow = if g.state = .inactive ∨ g.pinst = 0 then 0 else min 1000 (g.grant * 1000 / g.pinst) := by
  unfold Regulator.dutyNow
  by_cases hrest : g.state = .inactive
  · rw [if_pos hrest, if_pos (.inl hrest)]
  · by_cases hnone : g.pinst = 0
    · rw [if_neg hrest, if_pos (.inr hnone), hnone, dutyOf_zero_rating]
    · rw [if_neg hrest, if_neg (not_or.mpr ⟨hrest, hnone⟩)]
      rfl

/-- A zone drives no more than its grant. -/
theorem pinst_mul_dutyNow_le (g : Regulator) : g.pinst * g.dutyNow ≤ 1000 * g.grant := by
  unfold Regulator.dutyNow
  split
  · exact Nat.zero_le _
  · exact (dutyOf_spec g.grant g.pinst).2

/-- The record after a grant that differs (R96). -/
def granted (g : Regulator) (n : Nat) : Regulator :=
  { g with grant := n, shortfall := decide (n < g.request), duty := { g with grant := n }.dutyNow }

/-- The record after a posting of Pinst (R92, R98). -/
def reinstalled (g : Regulator) (pinst : Nat) : Regulator :=
  { g with pinst := pinst, duty := { g with pinst := pinst }.dutyNow }

theorem exec_zoneGrant (z : ZoneId) (n : Nat) (s : State) :
    exec (.zoneGrant z n) s =
      .next (if n = (s.reg z).grant then s
        else (s.setReg z (granted (s.reg z) n)).post (s.dutyPostings z (granted (s.reg z) n).duty)) := by
  by_cases h : n = (s.reg z).grant
  · rw [if_pos h]
    exact if_pos h
  · rw [if_neg h]
    exact if_neg h

theorem exec_pinstPosting (z : ZoneId) (s : State) :
    exec (.pinstPosting z) s =
      .next ((s.setReg z (reinstalled (s.reg z) (s.pinstNow z))).post
        (if (reinstalled (s.reg z) (s.pinstNow z)).duty = (s.reg z).duty then []
          else s.dutyPostings z (reinstalled (s.reg z) (s.pinstNow z)).duty)) := rfl

/-- Settles O29: the postings of a record taken, then grants, Pinst and drafts through the duty's own law. -/
theorem zonesPostAndTakeGrants : Obligations.ZonesPostAndTakeGrants := by
  refine ⟨fun z x s => ⟨rfl, State.zoneTakes_reg s z x, fun y => zoneTakes_reg_ne s x,
    s.zonePostings z (s.reg z) x, rfl, ?request, ?duty, ?fresh, ?zone0, fun i hi => ?only⟩,
    fun z n s => ⟨?grant, ?pinst, rfl, ?bound⟩⟩
  case request =>
    intro m n
    rw [mem_zonePostings]
    grind
  case duty =>
    intro c n
    rw [mem_zonePostings]
    grind
  case fresh =>
    intro y n
    rw [mem_zonePostings]
    grind
  case zone0 =>
    intro a b
    rw [mem_zonePostings]
    grind
  case only =>
    rcases mem_zonePostings.mp hi with ⟨-, rfl⟩ | ⟨-, c, -, rfl⟩ | ⟨-, rfl⟩ | ⟨-, rfl⟩
    · exact .inl ⟨_, _, rfl⟩
    · exact .inr (.inl ⟨_, _, rfl⟩)
    · exact .inr (.inr (.inl ⟨_, _, rfl⟩))
    · exact .inr (.inr (.inr ⟨_, _, rfl⟩))
  case grant =>
    rw [exec_zoneGrant, granted, dutyNow_eq]
    rfl
  case pinst =>
    rw [exec_pinstPosting, reinstalled, dutyNow_eq, pinstNow_eq]
    rfl
  case bound =>
    have hbound := pinst_mul_dutyNow_le { s.reg z with grant := n }
    rw [dutyNow_eq] at hbound
    exact hbound

/-! ### Lowered caps (R102) -/

theorem capped_above {g : Regulator} {cap : Nat} (h : 10 * (cap : Int) < g.u) :
    g.capped cap = { g with u := 10 * (cap : Int), highBound := true }.outputs := if_pos h

theorem capped_below {g : Regulator} {cap : Nat} (h : g.u < -(10 * (cap : Int))) :
    g.capped cap = { g with u := -(10 * (cap : Int)), limitedLow := true }.outputs := by
  rw [Regulator.capped, if_neg (by omega), if_pos h]

theorem exec_capLowered_within {z : ZoneId} {cap : Nat} {s : State} (hlow : -(10 * (cap : Int)) ≤ (s.reg z).u)
    (hhigh : (s.reg z).u ≤ 10 * (cap : Int)) : exec (.capLowered z cap) s = .next s := if_pos ⟨hlow, hhigh⟩

theorem exec_capLowered_outside {z : ZoneId} {cap : Nat} {s : State}
    (h : ¬(-(10 * (cap : Int)) ≤ (s.reg z).u ∧ (s.reg z).u ≤ 10 * (cap : Int))) :
    exec (.capLowered z cap) s = .next (s.zoneTakes z ((s.reg z).capped cap)) := if_neg h

/-! ### The section flaps (R4, R95) -/

/-- The greatest of the values accepted bounds each of them and the start value, and is one of these. -/
theorem foldl_max_where_spec {α : Type} (l : List α) (p : α → Prop) [DecidablePred p] (f : α → Nat) (n : Nat) :
    n ≤ l.foldl (fun m x => if p x then max m (f x) else m) n ∧
    (∀ x ∈ l, p x → f x ≤ l.foldl (fun m x => if p x then max m (f x) else m) n) ∧
    (l.foldl (fun m x => if p x then max m (f x) else m) n = n ∨
      ∃ x ∈ l, p x ∧ l.foldl (fun m x => if p x then max m (f x) else m) n = f x) := by
  induction l generalizing n with
  | nil => simp
  | cons a as ih =>
    obtain ⟨hstart, hbound, hattained⟩ := ih (if p a then max n (f a) else n)
    rw [List.foldl_cons]
    refine ⟨?_, fun x hx hp => ?_, ?_⟩
    · refine Nat.le_trans ?_ hstart
      split
      · exact Nat.le_max_left n (f a)
      · exact Nat.le_refl n
    · rcases List.mem_cons.mp hx with rfl | hx
      · rw [if_pos hp] at hstart ⊢
        exact Nat.le_trans (Nat.le_max_right n (f x)) hstart
      · exact hbound x hx hp
    · rcases hattained with hattained | ⟨x, hx, hp, hattained⟩
      · rw [hattained]
        split
        · next hp =>
          rcases Nat.le_total n (f a) with h | h
          · exact .inr ⟨a, List.mem_cons_self, hp, Nat.max_eq_right h⟩
          · exact .inl (Nat.max_eq_left h)
        · exact .inl rfl
      · exact .inr ⟨x, List.mem_cons_of_mem a hx, hp, hattained⟩

theorem demand_le_flapOf {s : State} {x : Section} {y : ZoneId} (h : (s.zoneRec y).sect = x) :
    Tab.get s.flaps.demand y ≤ s.flapOf x :=
  (foldl_max_where_spec (List.finRange 8) (fun y => (s.zoneRec y).sect = x) (fun y => Tab.get s.flaps.demand y) 0).2.1
    y (List.mem_finRange y) h

/-- The flap of a section with a member stands at the demand of one of its members. -/
theorem flapOf_attained {s : State} {x : Section} {z : ZoneId} (h : (s.zoneRec z).sect = x) :
    ∃ y, (s.zoneRec y).sect = x ∧ s.flapOf x = Tab.get s.flaps.demand y := by
  obtain ⟨-, -, hzero | ⟨y, -, hy, hmax⟩⟩ :=
    foldl_max_where_spec (List.finRange 8) (fun y => (s.zoneRec y).sect = x) (fun y => Tab.get s.flaps.demand y) 0
  · have hflap : s.flapOf x = 0 := hzero
    have hle := demand_le_flapOf h
    exact ⟨z, h, by omega⟩
  · exact ⟨y, hy, hmax⟩

/-- The position of a section's flap. -/
def position (f : Flaps) : Section → Nat
  | .a => f.posA
  | .b => f.posB
  | .c => f.posC

theorem setFlap_frame (s : State) (x : Section) : s.setFlap x = { s with flaps := (s.setFlap x).flaps } := by
  cases x <;> rfl

theorem setFlap_demand (s : State) (x : Section) : (s.setFlap x).flaps.demand = s.flaps.demand := by
  cases x <;> rfl

theorem setFlap_position_same (s : State) (x : Section) : position (s.setFlap x).flaps x = s.flapOf x := by
  cases x <;> rfl

theorem setFlap_position_ne (s : State) {x y : Section} (h : y ≠ x) :
    position (s.setFlap x).flaps y = position s.flaps y := by
  revert h
  cases x <;> cases y <;> simp [position, State.setFlap]

/-- The state with the zone's demand as its section's flap has received it. -/
def withDemand (s : State) (z : ZoneId) (n : Nat) : State :=
  { s with flaps := { s.flaps with demand := Tab.put s.flaps.demand z n } }

theorem exec_freshAirPosting (z : ZoneId) (n : Nat) (s : State) :
    exec (.freshAirPosting z n) s = .next ((withDemand s z n).setFlap (s.zoneRec z).sect) := rfl

/-! ### RESTART (R103) -/

theorem exec_zoneRegulatorRestart (z : ZoneId) (s : State) :
    exec (.zoneRegulatorRestart z) s =
      .next ((s.setReg z
        ((s.reg z).restarted (s.zoneRec z).minFresh (some (s.now + 1000 * (s.zoneRec z).interval)))).post
          (s.dutyPostings z 0 ++
            (if (s.reg z).request = 0 then [] else [.lineRequestPosting (.zone z) 0]) ++
            [.freshAirPosting z (s.zoneRec z).minFresh] ++
            (if z = 0 then [.zone0Posting 0 (s.zoneRec z).minFresh] else []))) := by
  rw [← Sensors.startSec_eq]
  rfl

/-- Settles O30: a lowered cap by the demand's place between the bounds, then the flaps and RESTART. -/
theorem targetChangesFlapsAndZoneRestart : Obligations.TargetChangesFlapsAndZoneRestart := by
  refine ⟨fun z c s => ⟨exec_capLowered_within, fun habove => ?above, fun hbelow => ?below, rfl⟩,
    fun z n s => ?flap, fun z s => exec_zoneRegulatorRestart z s⟩
  case above =>
    rw [exec_capLowered_outside (by omega), capped_above habove, outputs_eq]
  case below =>
    rw [exec_capLowered_outside (by omega), capped_below hbelow, outputs_eq]
  case flap =>
    intro pos mine
    have hpos : pos = position := by
      funext f x
      cases x <;> rfl
    rw [hpos]
    refine ⟨_, exec_freshAirPosting z n s, setFlap_frame _ _, setFlap_demand _ _,
      fun x hx => setFlap_position_ne (withDemand s z n) hx, fun y hy => ?_, ?_⟩
    · rw [setFlap_position_same, setFlap_demand]
      exact demand_le_flapOf (s := withDemand s z n) hy
    · rw [setFlap_position_same, setFlap_demand]
      exact flapOf_attained (s := withDemand s z n) (z := z) rfl

end Sys2Proof.Machine.Zones

/-! PROOFS. What the step takes with no command waiting (log entries 1 and 2): the choice among the waiting postings,
the part's own next event, and which events are due when. -/

namespace Sys2Proof.Machine.Events

/-! ### The choice among the postings -/

theorem isDuty_iff {i : Instr} : Instr.isDuty i = true ↔ ∃ c x, i = .dutyPosting c x := by
  cases i <;> simp [Instr.isDuty]

/-- The oldest posting is taken, the banks' RESTART too where no duty waits behind it. -/
theorem takePosting_front {p : Instr} {rest : List Instr}
    (h : p = .bankControllerRestart → ∀ c x, .dutyPosting c x ∉ rest) : takePosting (p :: rest) = some (p, rest) := by
  by_cases hp : p = .bankControllerRestart
  · subst hp
    have hnone : rest.find? Instr.isDuty = none := by
      refine List.find?_eq_none.mpr fun i hi hduty => ?_
      obtain ⟨c, x, rfl⟩ := isDuty_iff.mp hduty
      exact h rfl c x hi
    rw [takePosting_restart, hnone]
  · exact takePosting_oldest rest hp

theorem step_of_takePosting {s : State} {p : Instr} {rest : List Instr} (hpending : s.pending = [])
    (htake : takePosting s.posts = some (p, rest)) : step s = exec p { s with posts := rest } := by
  simp [step, hpending, htake]

theorem step_of_idle {s : State} (hpending : s.pending = []) (hposts : s.posts = []) : step s = exec s.ownEvent s := by
  simp [step, hpending, hposts]

/-! ### The part's own next event -/

theorem ownEvent_of_pass {s : State} {k : SensorId} {rest : List SensorId} (h : s.scan.pass = k :: rest) :
    s.ownEvent = .conversionArrival k (Tab.get s.pins.ain k) := by
  simp [State.ownEvent, h]

/-- Without a running pass the event taken is due, and none is due earlier. -/
theorem ownEvent_due {s : State} (h : s.scan.pass = []) :
    ∃ due, (due, s.ownEvent) ∈ s.due ∧ ∀ x ∈ s.due, due ≤ x.1 := by
  obtain ⟨⟨due, i⟩, hmem, hearliest, hleast⟩ := earliest_spec (s.orders.boundary, .timeBaseBoundary)
    (s.supplyDue ++ s.scanDue ++ s.zonesDue ++ s.doorsDue ++ s.banksDue)
  have hown : s.ownEvent = i := by
    rw [State.ownEvent, h]
    exact hearliest
  exact ⟨due, hown ▸ hmem, hleast⟩

/-! ### What is due, block by block -/

theorem mem_supplyDue {s : State} {e : Nat} {i : Instr} :
    (e, i) ∈ s.supplyDue ↔
      (i = .lineReading s.pins.vline s.pins.batLow ∧ e = s.supply.nextReading) ∨
      (i = .confirmationExpiry ∧ s.supply.confirmTimer = some e) ∨
      (i = .gapHoldExpiry ∧ s.supply.gapHoldTimer = some e) ∨
      (i = .pregapExpiry ∧ s.supply.pregapTimer = some e) ∨
      (i = .allowanceExpiry ∧ s.supply.allowanceTimer = some e) := by
  simp only [State.supplyDue, List.mem_cons, List.mem_append, mem_dueAt, Prod.mk.injEq, and_comm (a := e = _), or_assoc]

theorem mem_scanDue {s : State} {e : Nat} {i : Instr} :
    (e, i) ∈ s.scanDue ↔
      (i = .scanExpiry ∧ s.scan.scanTimer = some e) ∨
      (∃ k, i = .refreshExpiry k ∧ (s.sensor k).refreshTimer = some e) ∨
      (∃ k, i = .sensorHoldExpiry k ∧ (s.sensor k).holdTimer = some e) := by
  simp only [State.scanDue, List.mem_append, List.mem_flatMap, List.mem_finRange, true_and, mem_dueAt, exists_or]

theorem mem_zonesDue {s : State} {e : Nat} {i : Instr} :
    (e, i) ∈ s.zonesDue ↔ ∃ z, i = .intervalExpiry z ∧ (s.reg z).timer = some e := by
  simp only [State.zonesDue, List.mem_flatMap, List.mem_finRange, true_and, mem_dueAt]

theorem mem_doorsDue {s : State} {e : Nat} {i : Instr} :
    (e, i) ∈ s.doorsDue ↔
      (∃ d, i = .debounceExpiry d ∧ (s.door d).debounceTimer = some e) ∨
      (∃ d, i = .holdExpiry d ∧ (s.door d).holdTimer = some e) ∨
      (∃ d, i = .tailSecond d ∧ (s.door d).tailTimer = some e) ∨
      (∃ d, i = .faultExpiry d ∧ (s.door d).faultTimer = some e) := by
  simp only [State.doorsDue, List.mem_append, List.mem_flatMap, List.mem_finRange, true_and, mem_dueAt, exists_or,
    or_assoc]

theorem mem_banksDue {s : State} {e : Nat} {i : Instr} :
    (e, i) ∈ s.banksDue ↔
      (∃ b, i = .prechargeCompletion b (Tab.get s.pins.vlink b) ∧ (s.bank b).prechargeTimer = some e) ∨
      (∃ b, i = .openingCompletion b ∧ (s.bank b).openingTimer = some e) ∨
      (∃ b, i = .rampExpiry b ∧ (s.bank b).rampTimer = some e) ∨
      ∃ b, i = .idleExpiry b ∧ (s.bank b).idleTimer = some e := by
  simp only [State.banksDue, List.mem_append, List.mem_flatMap, List.mem_finRange, true_and, mem_dueAt, exists_or,
    or_assoc]

/-- An event is due exactly where it is the time base's boundary or due in one of the blocks. -/
theorem mem_due {s : State} {e : Nat} {i : Instr} :
    (e, i) ∈ s.due ↔ (i = .timeBaseBoundary ∧ e = s.orders.boundary) ∨ (e, i) ∈ s.supplyDue ∨ (e, i) ∈ s.scanDue ∨
      (e, i) ∈ s.zonesDue ∨ (e, i) ∈ s.doorsDue ∨ (e, i) ∈ s.banksDue := by
  simp only [State.due, List.mem_cons, List.mem_append, Prod.mk.injEq, and_comm (a := e = _), or_assoc]

/-- Settles O2: the posting chosen, else the part's own event, and the events due in each block. -/
theorem stepTakesPostingThenOwnEvent : Obligations.StepTakesPostingThenOwnEvent := by
  refine ⟨fun s hpending => ⟨fun p rest hposts hfirst => ?oldest, fun before c x after hposts hbefore => ?duty,
    fun hposts => ⟨step_of_idle hpending hposts, fun k rest => ownEvent_of_pass, ownEvent_due⟩⟩, fun s e i => ?due⟩
  case oldest =>
    exact step_of_takePosting hpending (by rw [hposts, takePosting_front hfirst])
  case duty =>
    exact step_of_takePosting hpending (by rw [hposts, takePosting_duty before c x after hbefore])
  case due =>
    simp only [mem_due, mem_supplyDue, mem_scanDue, mem_zonesDue, mem_doorsDue, mem_banksDue, or_assoc]

end Sys2Proof.Machine.Events

/-! PROOFS. The Screen Controller (chapter 07): the judging of the watch, what the screen level drives in the cab, the
requests and duties of the glazing heaters, and RESTART. -/

namespace Sys2Proof.Machine.Screen

/-! ### The evaluation of the watch (R123 to R126) -/

section
variable (r : ScreenRec) (prev : Watch) (tOut : Int)

theorem evaluation_incomplete {ta0 glass rh : Option Int} (h : ta0 = none ∨ glass = none ∨ rh = none) :
    evaluation r prev tOut ta0 glass rh = { watch := .unknown, tdew := none, margin := none } := by
  rcases h with rfl | rfl | rfl
  · rfl
  · cases ta0 <;> rfl
  · cases ta0 <;> cases glass <;> rfl

theorem dewpointOf_humid {tcab h : Int} (hh : 500 ≤ h) : dewpointOf tcab h = some (tcab - (1000 - h).tdiv 5) :=
  if_pos hh

theorem dewpointOf_dry {tcab h : Int} (hh : h < 500) : dewpointOf tcab h = none := if_neg (by omega)

/-- ICE is kept up to the exit limits, and entered by the test for entry (R125). -/
theorem iceTest_iff (glass : Int) : iceTest r prev tOut glass = true ↔
    if prev = .ice then glass ≤ r.ice + 20 ∧ tOut ≤ 10 else tOut ≤ 0 ∧ glass ≤ r.ice := by
  unfold iceTest Config.iceExitBand Config.iceExitTo
  split
  · simp only [Bool.not_eq_true', decide_eq_false_iff_not, not_or, Int.not_lt]
  · exact decide_eq_true_iff

end

theorem raises_iff (w : Watch) : Watch.raises w = true ↔ w = .fog ∨ w = .ice := by cases w <;> simp [Watch.raises]

/-- The state once a sensor posting is stored and judged, the mirror requests still to follow. -/
def judged (e : Evaluation) (ta0 : Option Int) (tOut : Int) (stale : Bool) (glass rh : Option Int)
    (s : State) : State :=
  { s with
    link := { s.link with
      causes := if e.watch ≠ s.screen.watch ∧ (e.watch = .fog ∨ e.watch = .ice) then s.link.causes ||| 0x10#8
        else s.link.causes }
    screen := { s.screen with
      watch := e.watch, initial := false, ta0 := ta0, tOut := tOut, stale := stale, glass := glass, humidity := rh
      tdew := e.tdew, margin := e.margin }
    posts := s.posts ++ if e.watch = s.screen.watch ∧ s.screen.initial = false then []
      else [.watchPosting e.watch (slotValue e.watch)] }

/-- A posting made under a condition. -/
theorem post_ite (c : Prop) [Decidable c] (s : State) (l : List Instr) :
    (if c then s.post l else s) = s.post (if c then l else []) := by
  split
  · rfl
  · exact (State.post_nil s).symm

/-- A cause raised under a condition. -/
theorem raise_ite (p : Prop) [Decidable p] (s : State) (c : Cause) :
    (if p then s.raise c else s) =
      { s with link := { s.link with causes := if p then s.link.causes ||| c.bit else s.link.causes } } := by
  split <;> rfl

/-- What SCREEN_SENSOR_POSTING does, by what its evaluation gives (R122, R127, R133). -/
theorem exec_screenSensorPosting (ta0 glass rh : Option Int) (tOut : Int) (stale : Bool) (s : State) :
    exec (.screenSensorPosting ta0 tOut stale glass rh) s =
      .next (judged (evaluation s.cfg.screen s.screen.watch tOut ta0 glass rh)
        ta0 tOut stale glass rh s).postMirrors := by
  have hexec : exec (.screenSensorPosting ta0 tOut stale glass rh) s =
      execScreenSensorPosting ta0 tOut stale glass rh s := rfl
  rw [hexec, execScreenSensorPosting]
  generalize evaluation s.cfg.screen s.screen.watch tOut ta0 glass rh = e
  have htold : (if (decide (e.watch ≠ s.screen.watch) || s.screen.initial) = true
        then [Instr.watchPosting e.watch (slotValue e.watch)] else []) =
      if e.watch = s.screen.watch ∧ s.screen.initial = false then []
        else [.watchPosting e.watch (slotValue e.watch)] := by
    rw [← ite_not]
    simp
  have hraised : (decide (e.watch ≠ s.screen.watch) && Watch.raises e.watch) = true ↔
      e.watch ≠ s.screen.watch ∧ (e.watch = .fog ∨ e.watch = .ice) := by
    rw [Bool.and_eq_true, decide_eq_true_iff, raises_iff]
  simp only [post_ite, raise_ite, htold, hraised]
  rfl

/-- Settles O35: the watch is the evaluation's, judged by whether it is complete and by the ice test. -/
theorem watchIsJudged : Obligations.WatchIsJudged := by
  intro ta0 glass rh tOut stale s r prev
  let e := evaluation r prev tOut ta0 glass rh
  refine ⟨e.watch, e.tdew, e.margin, fun hmissing => ?incomplete, fun tcab g h hta hglass hrh => ?complete,
    exec_screenSensorPosting ta0 glass rh tOut stale s⟩
  case incomplete =>
    have he : e = _ := evaluation_incomplete r prev tOut hmissing
    rw [he]
    exact ⟨rfl, rfl, rfl⟩
  case complete =>
    subst hta hglass hrh
    refine ⟨fun hhumid => ?_, fun hdry => ?_, fun hiced => ?_, fun hclear m hm => ?_⟩
    · have hdew := dewpointOf_humid (tcab := tcab) hhumid
      exact ⟨hdew, congrArg (fun t => some (marginOf t g)) hdew⟩
    · have hdew := dewpointOf_dry (tcab := tcab) hdry
      exact ⟨hdew, congrArg (fun t => some (marginOf t g)) hdew⟩
    · exact if_pos ((iceTest_iff r prev tOut g).mpr hiced)
    · have hwatch : e.watch = marginTest r prev (marginOf (dewpointOf tcab h) g) :=
        if_neg (mt (iceTest_iff r prev tOut g).mp hclear)
      rw [hwatch, Option.some.inj hm]
      rfl

/-! ### The requests of the glazing heaters (R132, R133) -/

section
variable {s : State} {a : AuxId}

theorem mem_mirrors : a ∈ s.mirrors ↔ (s.chanRec (auxChan a)).type = .mirror := by simp [State.mirrors]

theorem screenHeater_type (h : s.screenHeater = some a) : (s.chanRec (auxChan a)).type = .screen := by
  simpa using List.find?_some h

theorem screenHeater_none (h : s.screenHeater = none) (a : AuxId) : (s.chanRec (auxChan a)).type ≠ .screen := by
  simpa using List.find?_eq_none.mp h a (List.mem_finRange a)

theorem isHeater_iff : s.isHeater a = true ↔
    (s.chanRec (auxChan a)).type = .screen ∨ (s.chanRec (auxChan a)).type = .mirror := by
  unfold State.isHeater
  cases (s.chanRec (auxChan a)).type <;> simp

theorem auxHeat_of_heater
    (h : (s.chanRec (auxChan a)).type = .screen ∨ (s.chanRec (auxChan a)).type = .mirror) :
    s.auxHeat a = if s.available (auxChan a) = true then (s.chanRec (auxChan a)).rated else 0 := by
  simp only [State.auxHeat, isHeater_iff.mpr h, Bool.true_and]

theorem heaterRequest_screen (h : (s.chanRec (auxChan a)).type = .screen) : s.heaterRequest a =
    if s.screen.level = 0 then 0 else if s.screen.level = 1 then s.auxHeat a * 500 / 1000 else s.auxHeat a := by
  unfold State.heaterRequest
  rw [h]
  rcases s.screen.level with _ | _ | n <;> simp

theorem heaterRequest_mirror (h : (s.chanRec (auxChan a)).type = .mirror) : s.heaterRequest a =
    if s.screen.level = 0 ∧ 30 ≤ s.screen.tOut then 0 else s.auxHeat a := by
  unfold State.heaterRequest
  rw [h]
  rfl

end

/-- The glazing heaters in the order their requests are posted: the screen heater, then the mirrors (R129). -/
def glazing (s : State) : List AuxId := s.screenHeater.toList ++ s.mirrors

theorem mem_glazing {s : State} {a : AuxId} :
    a ∈ glazing s ↔ s.screenHeater = some a ∨ (s.chanRec (auxChan a)).type = .mirror := by
  rw [glazing, List.mem_append, Option.mem_toList, mem_mirrors]

theorem type_of_mem_glazing {s : State} {a : AuxId} (h : a ∈ glazing s) :
    (s.chanRec (auxChan a)).type = .screen ∨ (s.chanRec (auxChan a)).type = .mirror :=
  (mem_glazing.mp h).imp_left screenHeater_type

theorem nodup_mirrors (s : State) : s.mirrors.Nodup := (List.nodup_finRange 4).filter _

/-- No heater is listed twice: the screen heater is no mirror. -/
theorem nodup_glazing (s : State) : (glazing s).Nodup := by
  refine List.nodup_append.mpr ⟨?single, nodup_mirrors s, fun a hscreen b hmirror hab => ?disjoint⟩
  case single =>
    cases s.screenHeater with
    | none => exact List.nodup_nil
    | some a => exact List.nodup_cons.mpr ⟨List.not_mem_nil, List.nodup_nil⟩
  case disjoint =>
    have hs := screenHeater_type (Option.mem_toList.mp hscreen)
    rw [hab, mem_mirrors.mp hmirror] at hs
    cases hs

/-! ### Posting the requests of several heaters -/

/-- The figures of a heater with its request as it stands. -/
def withRequest (s : State) (a : AuxId) : Heater := { s.heater a with request := s.heaterRequest a }

/-- The postings of the requests, of the heaters listed, that differ from those last posted. -/
def requests (s : State) (l : List AuxId) : List Instr :=
  (l.filter fun a => s.heaterRequest a ≠ (s.heater a).request).map fun a => .auxRequestPosting a (s.heaterRequest a)

/-- The state once the heaters listed have taken their requests as they stand, and those that differ are posted. -/
def asked (s : State) (l : List AuxId) : State :=
  { s with
    screen := { s.screen with heaters := Tab.build fun a => if a ∈ l then withRequest s a else s.heater a }
    posts := s.posts ++ requests s l }

theorem mem_requests {s : State} {l : List AuxId} {i : Instr} : i ∈ requests s l ↔
    ∃ a, a ∈ l ∧ s.heaterRequest a ≠ (s.heater a).request ∧ i = .auxRequestPosting a (s.heaterRequest a) := by
  simp only [requests, List.mem_map, List.mem_filter, decide_eq_true_eq, and_assoc, eq_comm (a := i)]

theorem exists_of_mem_requests {s : State} {l : List AuxId} {i : Instr} (h : i ∈ requests s l) :
    ∃ a n, i = .auxRequestPosting a n := by
  obtain ⟨a, -, -, rfl⟩ := mem_requests.mp h
  exact ⟨a, _, rfl⟩

theorem auxRequest_mem_requests {s : State} {l : List AuxId} {a : AuxId} {n : Nat} :
    .auxRequestPosting a n ∈ requests s l ↔ a ∈ l ∧ n = s.heaterRequest a ∧ n ≠ (s.heater a).request := by
  rw [mem_requests]
  constructor
  · rintro ⟨b, hb, hdiffers, h⟩
    cases h
    exact ⟨hb, rfl, hdiffers⟩
  · rintro ⟨ha, rfl, hdiffers⟩
    exact ⟨a, ha, hdiffers, rfl⟩

theorem withRequest_of_same {s : State} {a : AuxId} (h : s.heaterRequest a = (s.heater a).request) :
    withRequest s a = s.heater a := by
  rw [withRequest, h]

section
variable (s : State) (l : List AuxId) (a : AuxId)

theorem asked_heater : (asked s l).heater a = if a ∈ l then withRequest s a else s.heater a := Tab.get_build _ a

/-- A request is a function of the channels, the level and To, which the posting of requests leaves. -/
theorem asked_heaterRequest : (asked s l).heaterRequest a = s.heaterRequest a := rfl

theorem asked_nil : asked s [] = s := by
  have hheaters : (Tab.build fun a => s.heater a) = s.screen.heaters := Tab.ext fun a => Tab.get_build _ a
  simp [asked, requests, hheaters]

theorem requests_concat : requests s (l ++ [a]) = requests s l ++
    if s.heaterRequest a = (s.heater a).request then [] else [.auxRequestPosting a (s.heaterRequest a)] := by
  by_cases h : s.heaterRequest a = (s.heater a).request <;> simp [requests, h]

theorem asked_concat_heaters :
    (asked s (l ++ [a])).screen.heaters = Tab.put (asked s l).screen.heaters a (withRequest s a) := by
  refine Tab.ext fun b => (asked_heater s (l ++ [a]) b).trans ?_
  rw [Tab.get_put]
  by_cases hb : a = b
  · simp [hb]
  · rw [if_neg hb]
    refine Eq.trans ?_ (asked_heater s l b).symm
    simp [Ne.symm hb]

variable {s l a}

theorem postHeater_asked (ha : a ∉ l) : (asked s l).postHeater a = asked s (l ++ [a]) := by
  have hold : (asked s l).heater a = s.heater a := by rw [asked_heater, if_neg ha]
  have hasked : asked s (l ++ [a]) = ((asked s l).setHeater a (withRequest s a)).post
      (if s.heaterRequest a = (s.heater a).request then [] else [.auxRequestPosting a (s.heaterRequest a)]) := by
    rw [State.setHeater, ← asked_concat_heaters, asked, requests_concat, ← List.append_assoc]
    rfl
  rw [hasked, State.postHeater, asked_heaterRequest, hold]
  split
  · next hsame =>
    rw [State.post_nil, withRequest_of_same hsame, ← hold, State.setHeater, State.heater, Tab.put_get]
  · rfl

theorem foldl_postHeater_asked (m : List AuxId) (h : (l ++ m).Nodup) :
    m.foldl State.postHeater (asked s l) = asked s (l ++ m) := by
  induction m generalizing l with
  | nil => rw [List.append_nil, List.foldl_nil]
  | cons a as ih =>
    have ha : a ∉ l := fun hl => (List.nodup_append.mp h).2.2 a hl a List.mem_cons_self rfl
    rw [List.foldl_cons, postHeater_asked ha, ih (by simpa using h), List.append_assoc, List.singleton_append]

theorem postMirrors_eq (s : State) : s.postMirrors = asked s s.mirrors := by
  have h := foldl_postHeater_asked (s := s) (l := []) s.mirrors (nodup_mirrors s)
  rwa [asked_nil] at h

/-- A new level has the screen heater's request follow, then the mirrors' (R129). -/
theorem postScreenHeater_postMirrors (s : State) : s.postScreenHeater.postMirrors = asked s (glazing s) := by
  have hscreen : s.postScreenHeater = asked s s.screenHeater.toList := by
    cases h : s.screenHeater with
    | none => rw [State.postScreenHeater, h, Option.toList_none, asked_nil]
    | some a =>
      have hpost := postHeater_asked (s := s) (l := []) (a := a) List.not_mem_nil
      rw [asked_nil] at hpost
      rwa [State.postScreenHeater, h]
  rw [hscreen]
  exact foldl_postHeater_asked s.mirrors (nodup_glazing s)

end

/-! ### What the screen level drives in the cab (R129 to R131) -/

theorem blowerOf_eq (level fan0 : Nat) :
    blowerOf level fan0 = if level = 0 then fan0 else if level = 1 then max fan0 5 else 7 := by
  rcases level with _ | _ | n <;> simp [blowerOf]

theorem cabFlapOf_eq (level fresh0 : Nat) :
    cabFlapOf level fresh0 = if level = 0 then fresh0 else if level = 1 then max fresh0 60 else 100 := by
  rcases level with _ | _ | n <;> simp [cabFlapOf]

theorem driven_eq (c : ScreenCtl) : c.driven =
    { c with
      blower := if c.level = 0 then c.fan0 else if c.level = 1 then max c.fan0 5 else 7
      dir := decide (c.level ≠ 0)
      flap := if c.level = 0 then c.fresh0 else if c.level = 1 then max c.fresh0 60 else 100 } := by
  rw [ScreenCtl.driven, blowerOf_eq, cabFlapOf_eq]

/-- The state once a new level is stored and drives the cab, the requests still to follow. -/
def atLevel (s : State) (level : Nat) : State := { s with screen := { s.screen with level := level }.driven }

theorem exec_screenLevelPosting (level : Nat) (s : State) :
    exec (.screenLevelPosting level) s = .next (asked (atLevel s level) (glazing s)) :=
  congrArg Host.Outcome.next (postScreenHeater_postMirrors (atLevel s level))

theorem exec_zone0Posting (fan fresh : Nat) (s : State) :
    exec (.zone0Posting fan fresh) s =
      .next { s with screen := { s.screen with fan0 := fan, fresh0 := fresh }.driven } := rfl

/-- The request of a glazing heater, by its type (R132, R133). -/
theorem heaterRequest_of_mem_glazing {s : State} {a : AuxId} (h : a ∈ glazing s) :
    s.heaterRequest a =
      let rated := if s.available (auxChan a) = true then (s.chanRec (auxChan a)).rated else 0
      if (s.chanRec (auxChan a)).type = .screen then
        if s.screen.level = 0 then 0 else if s.screen.level = 1 then rated * 500 / 1000 else rated
      else if s.screen.level = 0 ∧ 30 ≤ s.screen.tOut then 0 else rated := by
  have htype := type_of_mem_glazing h
  rw [← auxHeat_of_heater htype]
  rcases htype with hscreen | hmirror
  · exact (heaterRequest_screen hscreen).trans (if_pos hscreen).symm
  · have hother : (s.chanRec (auxChan a)).type ≠ .screen := by simp [hmirror]
    exact (heaterRequest_mirror hmirror).trans (if_neg hother).symm

/-! ### Grants and duties (R134, R176) -/

theorem heaterDuty_eq (s : State) (a : AuxId) (g : Nat) : s.heaterDuty a g =
    if ((s.chanRec (auxChan a)).type = .screen ∨ (s.chanRec (auxChan a)).type = .mirror) ∧
        (s.chanRec (auxChan a)).rated ≠ 0 then
      min 1000 (g * 1000 / (s.chanRec (auxChan a)).rated) else 0 := by
  unfold State.heaterDuty
  by_cases hheater : s.isHeater a = true
  · by_cases hrated : (s.chanRec (auxChan a)).rated = 0
    · rw [if_pos hheater, if_neg fun h => h.2 hrated, hrated, dutyOf_zero_rating]
    · rw [if_pos hheater, if_pos ⟨isHeater_iff.mp hheater, hrated⟩]
      rfl
  · rw [if_neg hheater, if_neg fun h => hheater (isHeater_iff.mpr h.1)]

theorem exec_auxGrant (a : AuxId) (n : Nat) (s : State) : exec (.auxGrant a n) s = .next (s.takeAuxGrant a n) := rfl

theorem exec_auxChannelPosting (a : AuxId) (s : State) :
    exec (.auxChannelPosting a) s = .next ((s.postHeater a).takeAuxGrant a (s.heater a).grant) := rfl

/-- A posting of the request leaves the configuration, and of the heater the grant and the duty. -/
theorem postHeater_keeps (s : State) (a : AuxId) :
    (s.postHeater a).cfg = s.cfg ∧ ((s.postHeater a).heater a).duty = (s.heater a).duty := by
  by_cases hsame : s.heaterRequest a = (s.heater a).request
  · have hpost : s.postHeater a = s := if_pos hsame
    rw [hpost]
    exact ⟨rfl, rfl⟩
  · have hpost : s.postHeater a = (s.setHeater a (withRequest s a)).post [.auxRequestPosting a (s.heaterRequest a)] :=
      if_neg hsame
    rw [hpost]
    exact ⟨rfl, (congrArg Heater.duty (State.setHeater_heater_same s a (withRequest s a))).trans rfl⟩

section
variable {s u : State} (hcfg : u.cfg = s.cfg) (a : AuxId) (g : Nat)
include hcfg

theorem heaterDuty_congr : u.heaterDuty a g = s.heaterDuty a g := by
  unfold State.heaterDuty State.isHeater State.chanRec
  rw [hcfg]

theorem auxDuty_congr : u.auxDuty a g = s.auxDuty a g := by
  unfold State.auxDuty State.chanRec
  rw [hcfg]

/-- A grant is taken by the channel's configuration and the duty last posted, whatever else has changed. -/
theorem takeAuxGrant_of_keeps (hduty : (u.heater a).duty = (s.heater a).duty) : u.takeAuxGrant a g =
      (u.setHeater a { u.heater a with grant := g, duty := s.heaterDuty a g }).post
        (if s.heaterDuty a g = (s.heater a).duty then [] else s.auxDuty a (s.heaterDuty a g)) := by
  rw [State.takeAuxGrant, heaterDuty_congr hcfg, auxDuty_congr hcfg, hduty]

end

/-- Settles O36: the level's and the mirrors' requests by `asked`, then grants through the duty's own law. -/
theorem levelDrivesTheCabAndItsHeaters : Obligations.LevelDrivesTheCabAndItsHeaters := by
  refine ⟨fun level fan fresh s => ?level, fun a n s => ⟨?grant, ?channel⟩, fun s => ?mirrors⟩
  case level =>
    intro driven heater asks u
    have hu : atLevel s level = u := by rw [atLevel, driven_eq]
    have hasks : ∀ a, heater a → u.heaterRequest a = asks a := fun a ha =>
      heaterRequest_of_mem_glazing (s := u) (mem_glazing.mpr ha)
    refine ⟨fun a => screenHeater_type, screenHeater_none, ?zone0, asked u (glazing s), requests u (glazing s),
      ?exec, rfl, fun a => ⟨fun ha => ?same, fun ha => ?other⟩, fun a n => ?posted, fun i hi => ?only⟩
    case zone0 => rw [exec_zone0Posting, driven_eq]
    case exec => rw [exec_screenLevelPosting, hu]
    case same => rw [asked_heater, if_pos (mem_glazing.mpr ha), withRequest, hasks a ha]; rfl
    case other => rw [asked_heater, if_neg (mt mem_glazing.mp ha)]; rfl
    case posted =>
      rw [auxRequest_mem_requests, mem_glazing]
      refine and_congr_right fun ha => ?_
      rw [hasks a ha]
      rfl
    case only => exact exists_of_mem_requests hi
  case grant =>
    rw [exec_auxGrant, State.takeAuxGrant, heaterDuty_eq]
    rfl
  case channel =>
    obtain ⟨hcfg, hduty⟩ := postHeater_keeps s a
    rw [exec_auxChannelPosting, takeAuxGrant_of_keeps hcfg a (s.heater a).grant hduty, heaterDuty_eq]
    rfl
  case mirrors =>
    intro mirror t
    have ht : t = asked s s.mirrors := postMirrors_eq s
    rw [ht]
    refine ⟨requests s s.mirrors, rfl, fun a => ⟨fun ha => ?_, fun ha => ?_⟩, fun a n => ?_, fun i hi => ?_⟩
    · rw [asked_heater, if_pos (mem_mirrors.mpr ha)]; rfl
    · rw [asked_heater, if_neg (mt mem_mirrors.mp ha)]
    · rw [auxRequest_mem_requests, mem_mirrors]
    · exact exists_of_mem_requests hi

/-! ### RESTART (R137) -/

/-- The state once RESTART has dropped the grants and duties, taken zone 0's figures and taken the requests as they
stand; the watch, its inputs and the level are kept. -/
def restarted (s : State) : State :=
  { s with screen := { s.screen with
      fan0 := 0
      fresh0 := (s.zoneRec 0).minFresh
      heaters := Tab.build fun a => { request := s.heaterRequest a, grant := 0, duty := 0 } }.driven }

/-- The requests are those of the state before: RESTART keeps the channels, the level and To. -/
theorem exec_screenControllerRestart (s : State) : exec .screenControllerRestart s =
    .next ((restarted s).post
      (.watchPosting s.screen.watch none :: ((List.finRange 4).flatMap fun a => s.auxDuty a 0) ++
        (glazing s).map fun a => .auxRequestPosting a (s.heaterRequest a))) := by
  have hexec : exec .screenControllerRestart s = execScreenControllerRestart s := rfl
  rw [hexec]
  simp only [execScreenControllerRestart, State.repostHeaters, State.post, State.heater, ScreenCtl.driven,
    Tab.get_build, List.append_assoc]
  rfl

/-- Settles O37: what RESTART does, with what the level drives in the cab written out. -/
theorem restartKeepsTheWatch : Obligations.RestartKeepsTheWatch := by
  intro s fresh level heaters told
  rw [exec_screenControllerRestart, restarted, driven_eq]
  simp only [Nat.zero_max]
  rfl

end Sys2Proof.Machine.Screen

/-! PROOFS. Supply and operating mode (chapter 08): the allowance figure and the allowances in force, ALLOWANCE and its
lapse, the changes of supply state, the judging of a line reading, MODE, and RESTART. -/

namespace Sys2Proof.Machine.Supply

/-! ### The allowance figure and the allowances in force (R149 to R151) -/

section
variable {s : State}

theorem figure_of_current {n : Nat} (hstatus : s.supply.status = .current) (hreceived : s.supply.received = some n) :
    s.figure = min n s.cfg.supply.lineMax := by
  simp only [State.figure, hstatus, hreceived]

theorem figure_of_not_current (h : s.supply.status ≠ .current) : s.figure = s.cfg.supply.fallback := by
  unfold State.figure
  split
  · next hcurrent _ => exact absurd hcurrent h
  all_goals rfl

/-- The figure is a received allowance cut to the line maximum, or the fallback. -/
theorem figure_le_max (s : State) : s.figure ≤ max s.cfg.supply.lineMax s.cfg.supply.fallback := by
  unfold State.figure
  split
  · exact Nat.le_trans (Nat.min_le_right _ _) (Nat.le_max_left _ _)
  all_goals exact Nat.le_max_right _ _

theorem supplyRec_inRange (h : CabinMapSound s) : s.cfg.supply.inRange := by
  obtain ⟨hrecords, -, -⟩ := h
  simp only [recordsInRange, Bool.and_eq_true, decide_eq_true_eq] at hrecords
  obtain ⟨⟨⟨-, hsupply⟩, -⟩, -⟩ := hrecords
  exact hsupply

theorem figure_le_1200 (h : CabinMapSound s) : s.figure ≤ 1200 := by
  obtain ⟨-, -, -, -, -, -, hlineMax, -, -, hfallback, -⟩ := supplyRec_inRange h
  exact Nat.le_trans (figure_le_max s) (Nat.max_le.mpr ⟨hlineMax, Nat.le_trans hfallback hlineMax⟩)

theorem lineAllowance_of_run (hstate : s.supply.state = .line) (hmode : s.supply.mode = .run) :
    s.lineAllowance = s.figure := by
  simp only [State.lineAllowance, hstate, hmode]

theorem lineAllowance_of_park (hstate : s.supply.state = .line) (hmode : s.supply.mode = .park) :
    s.lineAllowance = min s.figure s.cfg.supply.parkLimit := by
  simp only [State.lineAllowance, hstate, hmode]

theorem lineAllowance_of_not_line (h : s.supply.state ≠ .line) : s.lineAllowance = 0 := by
  cases hstate : s.supply.state with
  | line => exact absurd hstate h
  | pregap | gap | battery => simp only [State.lineAllowance, hstate]

theorem auxAllowance_of_low (h : s.supply.lowBat = true) : s.auxAllowance = 0 := if_pos h

theorem auxAllowance_of_not_low (h : s.supply.lowBat = false) : s.auxAllowance = s.cfg.supply.aux :=
  if_neg (Bool.eq_false_iff.mp h)

theorem lineAllowance_le_figure (s : State) : s.lineAllowance ≤ s.figure := by
  unfold State.lineAllowance
  split
  · exact Nat.le_refl _
  · exact Nat.min_le_left _ _
  all_goals exact Nat.zero_le _

end

/-! ### ALLOWANCE and its lapse (R147, R148) -/

/-- The line allowance in force is posted where it differs from that before the event (R150). -/
theorem postAllowance_eq (s old : State) : s.postAllowance old =
    s.post (if s.lineAllowance = old.lineAllowance then [] else [.allocatorAllowancePosting s.lineAllowance]) := by
  unfold State.postAllowance
  split
  · exact (State.post_nil s).symm
  · rfl

/-- The live fields once an allowance is received (R147). -/
def received (s : State) (v : Nat) : State :=
  { s with supply := { s.supply with
    received := some v, status := .current, allowanceTimer := some (s.now + 1000 * s.cfg.supply.timeout) } }

theorem takeAllowance_of_excess {s : State} {v : Word} (h : 2000 < v.toNat) :
    s.takeAllowance v = s.refuse .badField := if_pos h

theorem allowanceCut_iff (s : State) (v : Nat) : s.allowanceCut v = true ↔
    s.cfg.supply.lineMax < v ∨ (s.supply.mode = .park ∧ s.cfg.supply.parkLimit < v) := by
  simp only [State.allowanceCut, Bool.or_eq_true, Bool.and_eq_true, decide_eq_true_eq]

theorem takeAllowance_of_taken {s : State} {v : Word} (h : ¬2000 < v.toNat) :
    s.takeAllowance v =
      { state := (received s v.toNat).post
          (if (received s v.toNat).lineAllowance = s.lineAllowance then []
            else [.allocatorAllowancePosting (received s v.toNat).lineAllowance])
        status := if s.cfg.supply.lineMax < v.toNat ∨ (s.supply.mode = .park ∧ s.cfg.supply.parkLimit < v.toNat)
          then .adjusted else .done
        payload := bytesOfWords [BitVec.ofNat 16 (received s v.toNat).lineAllowance] } := by
  simp only [← postAllowance_eq, ← allowanceCut_iff, ← BitVec.ofInt_natCast, received, ← Sensors.startSec_eq]
  exact if_neg h

theorem exec_allowance (h : Header) (v : Word) (s : State) :
    exec (.allowance h v) s = .next (s.frame 0x31 h [v.hi, v.lo] fleetOrService fun t => t.takeAllowance v) := rfl

theorem fleetOrService_eq_false (o : Origin) : fleetOrService o = false ↔ o = .driver ∨ o = .depot := by
  cases o <;> simp [fleetOrService]

theorem exec_allowanceExpiry (s : State) : exec .allowanceExpiry s =
    .next (s.onExpiry s.supply.allowanceTimer fun t =>
      (({ t with supply := { t.supply with status := .lapsed, allowanceTimer := none } }).postAllowance t).raise
        .allowanceStale) := rfl

/-- Settles O38: the figure and the allowances by their cases, then ALLOWANCE check by check, and the lapse. -/
theorem allowancesAreTakenAndLapse : Obligations.AllowancesAreTakenAndLapse := by
  refine ⟨fun s => ⟨fun n => figure_of_current, figure_of_not_current, lineAllowance_of_run, lineAllowance_of_park,
    lineAllowance_of_not_line, auxAllowance_of_low, auxAllowance_of_not_low, lineAllowance_le_figure s,
    figure_le_1200⟩, fun h v s => ?command, fun s e hdue => ?lapse⟩
  case command =>
    intro u r t
    rw [exec_allowance]
    split
    · next horigin => rw [State.frame_denied _ ((fleetOrService_eq_false _).mpr horigin)]
    · next horigin =>
      have htaken : fleetOrService h.origin = true := by
        rwa [← fleetOrService_eq_false, Bool.not_eq_false] at horigin
      rw [State.frame_taken _ htaken]
      split
      · next hexcess => rw [takeAllowance_of_excess hexcess]; rfl
      · next hvalue => rw [takeAllowance_of_taken hvalue]; rfl
  case lapse =>
    rw [exec_allowanceExpiry, hdue, State.onExpiry_some, postAllowance_eq]
    rfl

/-! ### A change of supply state (R140 to R145) -/

/-- The postings to the four banks are made in number order. -/
theorem supplyPostings_eq (s : State) : s.supplyPostings =
    [.conditionPosting (.supply s.supply.state), .allocatorSupplyPosting s.supply.state s.lineAllowance,
      .bankSupplyPosting 0 s.supply.state, .bankSupplyPosting 1 s.supply.state, .bankSupplyPosting 2 s.supply.state,
      .bankSupplyPosting 3 s.supply.state] := rfl

/-- A change of supply state is the new state with its timers, the postings, and cause SUPPLY, raised before or after
they are made. -/
theorem setSupply_eq (s : State) (x : SupplyState) :
    s.setSupply x = ((s.withSupply x).raise .supply).post (s.withSupply x).supplyPostings := rfl

theorem withSupply_eq (s : State) (x : SupplyState) : s.withSupply x =
    { s with supply := { s.supply with
      state := x
      gapHoldTimer := if x = .gap then some (s.now + 1000 * s.cfg.supply.gapHold) else none
      pregapTimer := if x = .pregap then some (s.now + 1000 * s.cfg.supply.pregap) else none } } := by
  rw [State.withSupply, Sensors.startSec_eq, Sensors.startSec_eq]


/-! ### The expiries of the confirmation, gap hold and pregap timers (R139 to R143) -/

theorem exec_confirmationExpiry (s : State) : exec .confirmationExpiry s = execConfirmationExpiry s := rfl

theorem exec_gapHoldExpiry (s : State) : exec .gapHoldExpiry s = execGapHoldExpiry s := rfl

theorem exec_pregapExpiry (s : State) : exec .pregapExpiry s = execPregapExpiry s := rfl

section
variable {s : State}

theorem confirmationExpiry_stopped (h : s.supply.confirmTimer = none) : exec .confirmationExpiry s = .next s := by
  rw [exec_confirmationExpiry, execConfirmationExpiry, h, State.onExpiry_none]

theorem confirmationExpiry_due {e : Nat} (hdue : s.supply.confirmTimer = some e)
    (hstate : s.supply.state = .gap ∨ s.supply.state = .battery) :
    exec .confirmationExpiry s =
      .next (({ s.atTime e with supply := { s.supply with confirmTimer := none } }).setSupply .line) := by
  rw [exec_confirmationExpiry, execConfirmationExpiry, hdue, State.onExpiry_some]
  rcases hstate with hgap | hbattery
  · simp only [State.atTime_supply, hgap]
  · simp only [State.atTime_supply, hbattery]

theorem gapHoldExpiry_stopped (h : s.supply.gapHoldTimer = none) : exec .gapHoldExpiry s = .next s := by
  rw [exec_gapHoldExpiry, execGapHoldExpiry, h, State.onExpiry_none]

theorem gapHoldExpiry_due {e : Nat} (hdue : s.supply.gapHoldTimer = some e) (hstate : s.supply.state = .gap) :
    exec .gapHoldExpiry s = .next ((s.atTime e).setSupply .battery) := by
  rw [exec_gapHoldExpiry, execGapHoldExpiry, hdue, State.onExpiry_some]
  simp only [State.atTime_supply, hstate]

theorem pregapExpiry_stopped (h : s.supply.pregapTimer = none) : exec .pregapExpiry s = .next s := by
  rw [exec_pregapExpiry, execPregapExpiry, h, State.onExpiry_none]

theorem pregapExpiry_due {e : Nat} (hdue : s.supply.pregapTimer = some e) (hstate : s.supply.state = .pregap) :
    exec .pregapExpiry s = .next ((s.atTime e).setSupply .line) := by
  rw [exec_pregapExpiry, execPregapExpiry, hdue, State.onExpiry_some]
  simp only [State.atTime_supply, hstate]

theorem allowanceExpiry_stopped (h : s.supply.allowanceTimer = none) : exec .allowanceExpiry s = .next s := by
  rw [exec_allowanceExpiry, h, State.onExpiry_none]

end

/-! ### GAP_AHEAD (R144) -/

theorem setSupply_state (s : State) (x : SupplyState) : (s.setSupply x).supply.state = x := rfl

theorem exec_gapAhead (h : Header) (s : State) :
    exec (.gapAhead h) s = .next (s.frame 0x32 h [] fleetOrService State.gapAhead) := rfl

section
variable {s : State}

theorem gapAhead_of_line (h : s.supply.state = .line) :
    s.gapAhead = { state := s.setSupply .pregap, status := .done, payload := [0, 1] } := by
  simp only [State.gapAhead, State.supplyAnswer, h, setSupply_state]
  rfl

/-- In PREGAP the pregap timer is restarted, and nothing is posted (R141, R144). -/
theorem gapAhead_of_pregap (h : s.supply.state = .pregap) :
    s.gapAhead =
      { state := { s with supply := { s.supply with pregapTimer := some (s.now + 1000 * s.cfg.supply.pregap) } }
        status := .done
        payload := [0, 1] } := by
  simp only [State.gapAhead, State.supplyAnswer, h, Sensors.startSec_eq]
  rfl

theorem gapAhead_of_gap (h : s.supply.state = .gap) :
    s.gapAhead = { state := s, status := .done, payload := [0, 2] } := by
  simp only [State.gapAhead, State.supplyAnswer, h]
  rfl

theorem gapAhead_of_battery (h : s.supply.state = .battery) :
    s.gapAhead = { state := s, status := .wrongState, payload := [0, 3] } := by
  simp only [State.gapAhead, State.supplyAnswer, h]
  rfl

end

/-- Settles O39: the change of supply state, the expiries that cause one, and GAP_AHEAD state by state. -/
theorem supplyChangesInOneEvent : Obligations.SupplyChangesInOneEvent := by
  intro s
  refine ⟨fun x => ?change, confirmationExpiry_stopped, gapHoldExpiry_stopped, pregapExpiry_stopped,
    allowanceExpiry_stopped, fun e => ⟨confirmationExpiry_due, gapHoldExpiry_due, pregapExpiry_due⟩,
    fun h => ?gapAhead⟩
  case change =>
    rw [setSupply_eq, supplyPostings_eq, withSupply_eq]
    rfl
  case gapAhead =>
    rw [exec_gapAhead]
    intro u
    split
    · next horigin =>
      rw [State.frame_taken _ ((fleetOrService_iff _).mpr horigin)]
      cases hstate : s.supply.state with
      | line => rw [gapAhead_of_line (s := u) hstate]
      | pregap => rw [gapAhead_of_pregap (s := u) hstate]; rfl
      | gap => rw [gapAhead_of_gap (s := u) hstate]
      | battery => rw [gapAhead_of_battery (s := u) hstate]
    · next horigin =>
      have hdenied : fleetOrService h.origin = false :=
        Bool.eq_false_iff.mpr (mt (fleetOrService_iff _).mp horigin)
      rw [State.frame_denied _ hdenied]

/-! ### Line readings and battery-low (R139, R151) -/

theorem inside_iff (r : SupplyRec) (volts : Nat) : r.inside volts = true ↔ r.low ≤ volts ∧ volts ≤ r.high :=
  decide_eq_true_iff

/-- The state once a reading is stored, with the confirmation timer as given. -/
def noted (s : State) (volts : Nat) (confirm : Timer) : State :=
  { s with supply := { s.supply with lastReading := volts, confirmTimer := confirm } }

section
variable {s : State} {volts : Nat}

theorem judgeLine_of_good_present (hin : s.cfg.supply.inside volts = true)
    (hstate : s.supply.state = .line ∨ s.supply.state = .pregap) :
    s.judgeLine volts = noted s volts s.supply.confirmTimer := by
  rcases hstate with h | h <;> simp only [State.judgeLine, noted, h, hin]

/-- A bad reading in LINE or PREGAP is the loss of the line. -/
theorem judgeLine_of_bad_present (hout : s.cfg.supply.inside volts = false)
    (hstate : s.supply.state = .line ∨ s.supply.state = .pregap) :
    s.judgeLine volts = (noted s volts s.supply.confirmTimer).setSupply .gap := by
  rcases hstate with h | h <;> simp only [State.judgeLine, noted, h, hout]

/-- A first good reading in GAP or BATTERY starts a confirmation. -/
theorem judgeLine_of_first_good (hin : s.cfg.supply.inside volts = true)
    (hstate : s.supply.state = .gap ∨ s.supply.state = .battery) (hstopped : s.supply.confirmTimer = none) :
    s.judgeLine volts = noted s volts (some (s.now + s.cfg.supply.confirm)) := by
  rcases hstate with h | h <;> simp only [State.judgeLine, State.startMs, noted, h, hin, hstopped]

/-- A further good reading lets the confirmation run on. -/
theorem judgeLine_of_further_good (hin : s.cfg.supply.inside volts = true)
    (hstate : s.supply.state = .gap ∨ s.supply.state = .battery) (hruns : s.supply.confirmTimer ≠ none) :
    s.judgeLine volts = noted s volts s.supply.confirmTimer := by
  obtain ⟨e, he⟩ := Option.ne_none_iff_exists'.mp hruns
  rcases hstate with h | h <;> simp only [State.judgeLine, noted, h, hin, he]

/-- A bad reading in GAP or BATTERY ends the confirmation. -/
theorem judgeLine_of_bad_absent (hout : s.cfg.supply.inside volts = false)
    (hstate : s.supply.state = .gap ∨ s.supply.state = .battery) :
    s.judgeLine volts = noted s volts none := by
  rcases hstate with h | h <;> simp only [State.judgeLine, noted, h, hout]

/-- The line is absent in the two states in which it is not present. -/
theorem absent_of_not_present {x : SupplyState} (h : ¬(x = .line ∨ x = .pregap)) : x = .gap ∨ x = .battery := by
  cases x with
  | line => exact absurd (.inl rfl) h
  | pregap => exact absurd (.inr rfl) h
  | gap => exact .inl rfl
  | battery => exact .inr rfl

end

/-- The state as a reading arrives, before the line is judged. -/
def arrived (s : State) (volts : Nat) (low : Bool) : State :=
  { s with
    now := max s.now s.supply.nextReading
    pins := { s.pins with vline := volts, batLow := low }
    supply := { s.supply with nextReading := s.supply.nextReading + 20 } }

theorem exec_lineReading (volts : Nat) (low : Bool) (s : State) :
    exec (.lineReading volts low) s = .next (((arrived s volts low).judgeLine volts).sampleBattery low) := rfl

theorem sampleBattery_eq (s : State) (low : Bool) : s.sampleBattery low =
    if low = s.supply.lowBat then s
    else ({ s with supply := { s.supply with lowBat := low } }).post
      [.conditionPosting (.batteryLow low), .auxAllowancePosting (if low then 0 else s.cfg.supply.aux)] := rfl

/-- Settles O40: the judging of the line by its five cases; none of them touches what the sample of BATLOW reads. -/
theorem lineReadingsAreJudged : Obligations.LineReadingsAreJudged := by
  intro volts low s m r inside present confirm sampled
  have hgood : inside → (arrived s volts low).cfg.supply.inside volts = true := (inside_iff r volts).mpr
  have hbad : ¬inside → (arrived s volts low).cfg.supply.inside volts = false := fun h =>
    Bool.eq_false_iff.mpr (mt (inside_iff r volts).mp h)
  rw [exec_lineReading]
  refine ⟨fun hin hpresent => ?_, fun hout hpresent => ?_, fun hin habsent hstopped => ?_,
    fun hin habsent hruns => ?_, fun hout habsent => ?_⟩
  · rw [judgeLine_of_good_present (hgood hin) hpresent, sampleBattery_eq]; rfl
  · rw [judgeLine_of_bad_present (hbad hout) hpresent, sampleBattery_eq]; rfl
  · rw [judgeLine_of_first_good (hgood hin) (absent_of_not_present habsent) hstopped, sampleBattery_eq]; rfl
  · rw [judgeLine_of_further_good (hgood hin) (absent_of_not_present habsent) hruns, sampleBattery_eq]; rfl
  · rw [judgeLine_of_bad_absent (hbad hout) (absent_of_not_present habsent), sampleBattery_eq]; rfl

/-! ### MODE and RESTART (R152 to R154, R156) -/

theorem exec_mode (h : Header) (v : Byte) (s : State) :
    exec (.mode h v) s = .next (s.frame 0x34 h [v] notDriver fun t => t.setMode v) := rfl

theorem modeOf_of_excess {v : Byte} (h : 1 < v.toNat) : modeOf v = none := by
  have hrun : v ≠ 0 := by bv_omega
  have hpark : v ≠ 1 := by bv_omega
  rw [modeOf, if_neg hrun, if_neg hpark]

theorem setMode_of_excess {s : State} {v : Byte} (h : 1 < v.toNat) : s.setMode v = s.refuse .badField := by
  rw [State.setMode, modeOf_of_excess h]

/-- A change of mode: what is asked of the Order Table, then the posting to the Allocator (R153, R154). -/
theorem enterMode_run (s : State) :
    let t := { s with supply := { s.supply with mode := .run } }
    s.enterMode .run = t.post [.orderTableModePosting .run, .allocatorModePosting .run t.lineAllowance] := rfl

theorem enterMode_park (s : State) :
    let t := { s with supply := { s.supply with mode := .park } }
    s.enterMode .park = t.post [.orderTableParkClear, .allocatorModePosting .park t.lineAllowance] := rfl

theorem setMode_run (s : State) :
    s.setMode 0 =
      { state := if s.supply.mode = .run then s else s.enterMode .run, status := .done, payload := [0, 0] } := by
  simp only [eq_comm (a := s.supply.mode)]
  rfl

theorem setMode_park (s : State) :
    s.setMode 1 =
      { state := if s.supply.mode = .park then s else s.enterMode .park, status := .done, payload := [0, 1] } := by
  simp only [eq_comm (a := s.supply.mode)]
  rfl

theorem exec_supplyMonitorRestart (s : State) : exec .supplyMonitorRestart s = execSupplyMonitorRestart s := rfl

/-- Settles O41: MODE by its origin and its value, and RESTART. -/
theorem modesAreEntered : Obligations.ModesAreEntered := by
  refine ⟨fun h v s => ?mode, fun s => ?restart⟩
  case mode =>
    intro u entered
    rw [exec_mode]
    split
    · next hdriver => rw [State.frame_denied _ (by rw [hdriver]; rfl)]
    · next hother =>
      rw [State.frame_taken _ ((notDriver_iff _).mpr hother)]
      refine ⟨fun hexcess => ?_, fun hrun => ?_, fun hpark => ?_⟩
      · rw [setMode_of_excess hexcess]
        rfl
      · obtain rfl : v = 0 := BitVec.eq_of_toNat_eq hrun
        rw [setMode_run, enterMode_run]
        rfl
      · obtain rfl : v = 1 := BitVec.eq_of_toNat_eq hpark
        rw [setMode_park, enterMode_park]
        rfl
  case restart => rw [exec_supplyMonitorRestart, execSupplyMonitorRestart]

end Sys2Proof.Machine.Supply
